-- ==== Sys2Proof/Word.lean ====
section
/-! DEFINITION. The widths every other file uses: a byte, and the 32-bit command or event word (30_encoding.md R110, R113). -/

namespace Sys2Proof

/-- A byte: a buffer entry, a segment bitmap, a byte on the bus (20_memory.md R86). -/
abbrev Byte := BitVec 8

/-- A command word or event word, `CMD[31:0]` (30_encoding.md R110, R113). -/
abbrev Word := BitVec 32

end Sys2Proof
end

