-- ==== Sys2Proof/Config.lean ====
section
/-! DEFINITION. What is fixed for one machine and what the spec leaves free: the parameters of 00_scope.md R9 as a record the
state carries, and the free values, each an opaque constant that nothing in Lean can evaluate (notes/assumptions 2, 3, 4, 9). -/

namespace Sys2Proof

/-- The three interrupt sources (60_exceptions.md R285). -/
inductive Source where
  | disp
  | tick
  | edge
  deriving DecidableEq, Repr

/-- The two events of the display source (42_display_refresh.md R216). -/
inductive DispEvent where
  | update
  | compare
  deriving DecidableEq, Repr

/-- P17 `SCHED_BIU`: when a BIU move may be taken (41_bus_interface_unit.md R195). -/
inductive Sched where
  /-- the default: a move only when the sequencer has no enabled step -/
  | enginePriority
  /-- moves interleave freely with engine steps (70_reset_and_hazards.md R342) -/
  | free
  deriving DecidableEq, Repr

/-- What `EV_TICK` does with a `COUNTER` that holds 2^32 − 1 (43_stopwatch_tick.md R240, D18, U9; notes/assumptions/6.md). -/
inductive Overflow where
  /-- what R240, D18 and U9 ask of a model: stop with a named fault -/
  | faults
  /-- what R240 says the hardware does: wrap to 0 -/
  | wraps
  deriving DecidableEq, Repr

/-- P18 `REG_ADDR_ORDER`: which byte of a sensor register address goes first (20_memory.md R84). -/
inductive RegOrder where
  | highFirst
  | lowFirst
  deriving DecidableEq, Repr

/-- P15 `PRIO`: the urgency of each source, smaller is more urgent (60_exceptions.md R288). -/
structure Prio where
  disp : Nat
  tick : Nat
  edge : Nat
  deriving DecidableEq, Repr

/-- P18: the sensor constants of the host contract (44_sensor_bridge_host.md R261 to R264). -/
structure Sensor where
  /-- `SENSOR_ADDR` -/
  addr : BitVec 7
  /-- `REG_FRESH_RESET` -/
  regFreshReset : BitVec 16
  /-- `REG_INT_MODE` -/
  regIntMode : BitVec 16
  /-- `REG_INT_CLEAR` -/
  regIntClear : BitVec 16
  /-- `REG_START` -/
  regStart : BitVec 16
  /-- `MODE_LOW` -/
  modeLow : Byte
  /-- `MODE_HIGH` -/
  modeHigh : Byte
  /-- `VAL_INT_CLEAR` -/
  valIntClear : Byte
  /-- `VAL_START_CONT` -/
  valStartCont : Byte
  /-- `CAL_TABLE`, pairs of register and value in table order -/
  calTable : List (BitVec 16 × Byte)
  /-- `REG_ADDR_ORDER` -/
  order : RegOrder
  deriving DecidableEq, Repr

/-- The OPEN parameters of 00_scope.md R9. The state carries them and no step writes them, so that a statement about every
state is a statement about every value of them (notes/assumptions/9.md). -/
structure Params where
  /-- P11 `SEG_TABLE[0..9]` -/
  segTable : Vector Byte 10
  /-- P12 `DP_MASK` -/
  dpMask : Byte
  /-- P15 `PRIO` -/
  prio : Prio
  /-- P17 `SCHED_BIU` -/
  sched : Sched
  /-- the two halves of R240, the MODEL's own parameter (notes/assumptions/6.md) -/
  overflow : Overflow
  /-- P18 -/
  sensor : Sensor
  deriving DecidableEq, Repr

namespace Config

/-- P8 `F_UPDATE`: recorded, enters no rule of behaviour (70_reset_and_hazards.md R350). -/
def updateEventsPerSecond : Nat := 400

/-- P10 `F_TICK`: recorded, enters no rule of behaviour (70_reset_and_hazards.md R350). -/
def tickEventsPerSecond : Nat := 10

/-- Free value: the byte a `WBUF` entry that no `BTE_WPUT` has written since reset number `boot` reads as (U3, 10_state.md R56). -/
opaque wbufPowerUp (boot index : Nat) : Byte

/-- Free value: the byte an `RBUF` entry that no `R_DATA` has written since reset number `boot` reads as (U3, 10_state.md R56). -/
opaque rbufPowerUp (boot index : Nat) : Byte

/-- Free value: what `a_dr_read` returns when `RXNE` = 0 (U4, 41_bus_interface_unit.md R186). -/
opaque drEmptyRead (use : Nat) : Byte

/-- Free value: what `DR` holds after `a_dr_write` of `new` over the byte `old` not yet taken (U4, 41_bus_interface_unit.md
R185). -/
opaque drOverwrite (use : Nat) (old new : Byte) : Byte

/-- Free value: `dev.addr_ack(b)` once the listed answers are used up (P16, 41_bus_interface_unit.md R181). -/
opaque devAddrAck (use : Nat) (b : Byte) : Bool

/-- Free value: `dev.data_ack(b)` once the listed answers are used up (P16, 41_bus_interface_unit.md R181). -/
opaque devDataAck (use : Nat) (b : Byte) : Bool

/-- Free value: `dev.read_byte()` once the listed answers are used up (P16, 41_bus_interface_unit.md R181). -/
opaque devReadByte (use : Nat) : Byte

/-- P18 `SENSOR_ADDR`, not in the spec. -/
opaque sensorAddr : BitVec 7

/-- P18 `REG_FRESH_RESET`, not in the spec. -/
opaque regFreshReset : BitVec 16

/-- P18 `REG_INT_MODE`, not in the spec. -/
opaque regIntMode : BitVec 16

/-- P18 `REG_INT_CLEAR`, not in the spec. -/
opaque regIntClear : BitVec 16

/-- P18 `REG_START`, not in the spec. -/
opaque regStart : BitVec 16

/-- P18 `MODE_LOW`, not in the spec. -/
opaque modeLow : Byte

/-- P18 `MODE_HIGH`, not in the spec. -/
opaque modeHigh : Byte

/-- P18 `VAL_INT_CLEAR`, not in the spec. -/
opaque valIntClear : Byte

/-- P18 `VAL_START_CONT`, not in the spec. -/
opaque valStartCont : Byte

/-- P18 `CAL_TABLE`, not in the spec ("about 30 pairs"). -/
opaque calTable : List (BitVec 16 × Byte)

end Config

end Sys2Proof
end

