-- ==== Sys2Proof/Syntax.lean ====
section
/-! DEFINITION. The instruction type: one constructor per row of spec/opcode_table.json, in the table's order. Eight commands
(30_encoding.md R112), four events (R113), twenty micro-operations (R114). -/

namespace Sys2Proof

/-- The block's instructions in the sense of 00_scope.md R3. -/
inductive Instr where
  /-- `BTE_INIT` (40_bus_transaction_engine.md R141) -/
  | bteInit
  /-- `BTE_TRANSACT addr, m, n` (40_bus_transaction_engine.md R144) -/
  | bteTransact (addr : BitVec 7) (m n : BitVec 8)
  /-- `BTE_WPUT idx, byte` (40_bus_transaction_engine.md R142) -/
  | bteWput (idx : BitVec 8) (byte : Byte)
  /-- `BTE_RGET idx` (40_bus_transaction_engine.md R143) -/
  | bteRget (idx : BitVec 8)
  /-- `DRS_INIT` (42_display_refresh.md R211) -/
  | drsInit
  /-- `DRS_PUT idx, byte`; the index field has 8 bits, of which 0 to 3 name a slot (42_display_refresh.md R212, 20_memory.md R87) -/
  | drsPut (idx : BitVec 8) (byte : Byte)
  /-- `STK_INIT` (43_stopwatch_tick.md R231) -/
  | stkInit
  /-- `STK_TRIGGER` (43_stopwatch_tick.md R232) -/
  | stkTrigger
  /-- `EV_DISP_UPDATE` (42_display_refresh.md R214) -/
  | evDispUpdate
  /-- `EV_DISP_COMPARE` (42_display_refresh.md R215) -/
  | evDispCompare
  /-- `EV_TICK` (43_stopwatch_tick.md R234) -/
  | evTick
  /-- `EV_SENSOR_EDGE` (44_sensor_bridge_host.md R262) -/
  | evSensorEdge
  /-- `IDLE` (R150) -/
  | idle
  /-- `W_START` (R151) -/
  | wStart
  /-- `W_WAIT_SB` (R152) -/
  | wWaitSb
  /-- `W_ADDR` (R153) -/
  | wAddr
  /-- `W_WAIT_ADDR` (R154) -/
  | wWaitAddr
  /-- `W_CLR_ADDR` (R155) -/
  | wClrAddr
  /-- `W_DATA` (R156) -/
  | wData
  /-- `W_WAIT_TXE` (R157) -/
  | wWaitTxe
  /-- `W_WAIT_BTF` (R158) -/
  | wWaitBtf
  /-- `W_STOP` (R159) -/
  | wStop
  /-- `R_START` (R160) -/
  | rStart
  /-- `R_WAIT_SB` (R161) -/
  | rWaitSb
  /-- `R_ADDR` (R162) -/
  | rAddr
  /-- `R_ACKPOL` (R163) -/
  | rAckpol
  /-- `R_WAIT_ADDR` (R164) -/
  | rWaitAddr
  /-- `R_CLR_ADDR` (R165) -/
  | rClrAddr
  /-- `R_STAGE` (R166) -/
  | rStage
  /-- `R_WAIT_RXNE` (R167) -/
  | rWaitRxne
  /-- `R_DATA` (R168) -/
  | rData
  /-- `DONE` (R169) -/
  | done
  deriving DecidableEq, Repr

/-- Which of the three closed sets of 00_scope.md R3 an instruction belongs to; commands are split by whether a running
transaction holds them (40_bus_transaction_engine.md R145). -/
inductive InstrKind where
  /-- a BTE command: held while `BUSY` = 1 -/
  | bteCommand
  /-- a DRS or STK command: taken at any time -/
  | unitCommand
  /-- an event -/
  | event
  /-- a micro-operation -/
  | micro
  deriving DecidableEq, Repr

/-- The set an instruction belongs to (30_encoding.md R112, R113, R114). -/
def Instr.kind : Instr → InstrKind
  | .bteInit => .bteCommand
  | .bteTransact _ _ _ => .bteCommand
  | .bteWput _ _ => .bteCommand
  | .bteRget _ => .bteCommand
  | .drsInit => .unitCommand
  | .drsPut _ _ => .unitCommand
  | .stkInit => .unitCommand
  | .stkTrigger => .unitCommand
  | .evDispUpdate => .event
  | .evDispCompare => .event
  | .evTick => .event
  | .evSensorEdge => .event
  | .idle => .micro
  | .wStart => .micro
  | .wWaitSb => .micro
  | .wAddr => .micro
  | .wWaitAddr => .micro
  | .wClrAddr => .micro
  | .wData => .micro
  | .wWaitTxe => .micro
  | .wWaitBtf => .micro
  | .wStop => .micro
  | .rStart => .micro
  | .rWaitSb => .micro
  | .rAddr => .micro
  | .rAckpol => .micro
  | .rWaitAddr => .micro
  | .rClrAddr => .micro
  | .rStage => .micro
  | .rWaitRxne => .micro
  | .rData => .micro
  | .done => .micro

end Sys2Proof
end

