-- ==== Sys2Proof/WellFormed.lean ====
section
/-! DEFINITION. Which instruction terms have an encoding the spec assigns. Every operand width is a type but one: the index of
`DRS_PUT`, an 8-bit field of which only 0 to 3 are assigned (30_encoding.md R120, 20_memory.md R87). -/

namespace Sys2Proof

/-- `DRS_PUT`'s index names one of the four slots (30_encoding.md R112 "`idx` ≤ 3"); every other operand is free. -/
def Instr.wellFormed : Instr → Bool
  | .bteInit => true
  | .bteTransact _ _ _ => true
  | .bteWput _ _ => true
  | .bteRget _ => true
  | .drsInit => true
  | .drsPut idx _ => decide (idx.toNat ≤ 3)
  | .stkInit => true
  | .stkTrigger => true
  | .evDispUpdate => true
  | .evDispCompare => true
  | .evTick => true
  | .evSensorEdge => true
  | .idle => true
  | .wStart => true
  | .wWaitSb => true
  | .wAddr => true
  | .wWaitAddr => true
  | .wClrAddr => true
  | .wData => true
  | .wWaitTxe => true
  | .wWaitBtf => true
  | .wStop => true
  | .rStart => true
  | .rWaitSb => true
  | .rAddr => true
  | .rAckpol => true
  | .rWaitAddr => true
  | .rClrAddr => true
  | .rStage => true
  | .rWaitRxne => true
  | .rData => true
  | .done => true

end Sys2Proof
end

