-- ==== Sys2Proof/Decode.lean ====
section
/-! DEFINITION. Decoding and encoding of command words, event words and sequencer codes (30_encoding.md R110 to R121). A word has
no byte order: the port takes all 32 bits at once. Every decoder is total and rejects by name. -/

namespace Sys2Proof

/-! ### The sequencer codes (30_encoding.md R114) -/

namespace Seq

/-- `IDLE` -/
abbrev idle : BitVec 5 := 0x00#5
/-- `W_START` -/
abbrev wStart : BitVec 5 := 0x01#5
/-- `W_WAIT_SB` -/
abbrev wWaitSb : BitVec 5 := 0x02#5
/-- `W_ADDR` -/
abbrev wAddr : BitVec 5 := 0x03#5
/-- `W_WAIT_ADDR` -/
abbrev wWaitAddr : BitVec 5 := 0x04#5
/-- `W_CLR_ADDR` -/
abbrev wClrAddr : BitVec 5 := 0x05#5
/-- `W_DATA` -/
abbrev wData : BitVec 5 := 0x06#5
/-- `W_WAIT_TXE` -/
abbrev wWaitTxe : BitVec 5 := 0x07#5
/-- `W_WAIT_BTF` -/
abbrev wWaitBtf : BitVec 5 := 0x08#5
/-- `W_STOP` -/
abbrev wStop : BitVec 5 := 0x09#5
/-- `R_START` -/
abbrev rStart : BitVec 5 := 0x0A#5
/-- `R_WAIT_SB` -/
abbrev rWaitSb : BitVec 5 := 0x0B#5
/-- `R_ADDR` -/
abbrev rAddr : BitVec 5 := 0x0C#5
/-- `R_ACKPOL` -/
abbrev rAckpol : BitVec 5 := 0x0D#5
/-- `R_WAIT_ADDR` -/
abbrev rWaitAddr : BitVec 5 := 0x0E#5
/-- `R_CLR_ADDR` -/
abbrev rClrAddr : BitVec 5 := 0x0F#5
/-- `R_STAGE` -/
abbrev rStage : BitVec 5 := 0x10#5
/-- `R_WAIT_RXNE` -/
abbrev rWaitRxne : BitVec 5 := 0x11#5
/-- `R_DATA` -/
abbrev rData : BitVec 5 := 0x12#5
/-- `DONE` -/
abbrev done : BitVec 5 := 0x13#5

end Seq

/-- Why a word or code is not an instruction (30_encoding.md R120, R121). -/
inductive DecodeRefusal where
  /-- an opcode not in R112 -/
  | unassignedOpcode (op : BitVec 8)
  /-- an assigned opcode with a nonzero `zero` field -/
  | nonzeroZeroField (op : BitVec 8)
  /-- `BTE_RGET` with `byte` ≠ 0 -/
  | rgetByteNonzero (byte : BitVec 8)
  /-- `DRS_PUT` with `idx` > 3 -/
  | drsPutIndex (idx : BitVec 8)
  /-- an event word given to the command port -/
  | eventOnCommandPort (code : BitVec 8)
  /-- a word on the event path that is no event word -/
  | notAnEvent (word : Word)
  /-- a sequencer code 0x14 to 0x1F -/
  | reservedSeqCode (code : BitVec 5)
  deriving DecidableEq, Repr

/-! ### Fields of a word (30_encoding.md R111) -/

/-- `CMD[31:24]` -/
def Word.op (w : Word) : BitVec 8 := w.extractLsb' 24 8
/-- `CMD[23:0]`, the `zero` field of format Z and of an event word -/
def Word.zeroZ (w : Word) : BitVec 24 := w.extractLsb' 0 24
/-- `CMD[23]`, the `zero` field of format T -/
def Word.zeroT (w : Word) : BitVec 1 := w.extractLsb' 23 1
/-- `CMD[23:16]`, the `zero` field of format B -/
def Word.zeroB (w : Word) : BitVec 8 := w.extractLsb' 16 8
/-- `CMD[22:16]`, the address of format T -/
def Word.addrT (w : Word) : BitVec 7 := w.extractLsb' 16 7
/-- `CMD[15:8]`, `m` of format T and `idx` of format B -/
def Word.hiByte (w : Word) : BitVec 8 := w.extractLsb' 8 8
/-- `CMD[7:0]`, `n` of format T and `byte` of format B -/
def Word.loByte (w : Word) : BitVec 8 := w.extractLsb' 0 8

/-- A format Z command: every bit below the opcode is 0. -/
def decodeZ (w : Word) (i : Instr) : Except DecodeRefusal Instr :=
  if w.zeroZ = 0 then .ok i else .error (.nonzeroZeroField w.op)

/-- A word on the command port (30_encoding.md R110 to R112, R118, R120). -/
def decodeCommand (w : Word) : Except DecodeRefusal Instr :=
  if w.op = 0x01#8 then decodeZ w .bteInit
  else if w.op = 0x02#8 then
    if w.zeroT = 0 then .ok (.bteTransact w.addrT w.hiByte w.loByte) else .error (.nonzeroZeroField w.op)
  else if w.op = 0x03#8 then
    if w.zeroB = 0 then .ok (.bteWput w.hiByte w.loByte) else .error (.nonzeroZeroField w.op)
  else if w.op = 0x04#8 then
    if w.zeroB = 0 then
      if w.loByte = 0 then .ok (.bteRget w.hiByte) else .error (.rgetByteNonzero w.loByte)
    else .error (.nonzeroZeroField w.op)
  else if w.op = 0x10#8 then decodeZ w .drsInit
  else if w.op = 0x11#8 then
    if w.zeroB = 0 then
      if w.hiByte.toNat ≤ 3 then .ok (.drsPut w.hiByte w.loByte) else .error (.drsPutIndex w.hiByte)
    else .error (.nonzeroZeroField w.op)
  else if w.op = 0x20#8 then decodeZ w .stkInit
  else if w.op = 0x21#8 then decodeZ w .stkTrigger
  else if 0x80 ≤ w.op.toNat ∧ w.op.toNat ≤ 0x83 then .error (.eventOnCommandPort w.op)
  else .error (.unassignedOpcode w.op)

/-- A word on the test bench's event-injection path (30_encoding.md R113). -/
def decodeEvent (w : Word) : Except DecodeRefusal Instr :=
  if w = 0x80000000#32 then .ok .evDispUpdate
  else if w = 0x81000000#32 then .ok .evDispCompare
  else if w = 0x82000000#32 then .ok .evTick
  else if w = 0x83000000#32 then .ok .evSensorEdge
  else .error (.notAnEvent w)

/-- Is the word on the event path: its code is one of the four event codes (30_encoding.md R113). -/
def Word.isEvent (w : Word) : Bool := decide (0x80 ≤ w.op.toNat ∧ w.op.toNat ≤ 0x83)

/-- A 32-bit word of the opcode table: an event word by its code, else a command word. -/
def decodeWord (w : Word) : Except DecodeRefusal Instr :=
  if w.isEvent then decodeEvent w else decodeCommand w

/-- The micro-operation whose code `SEQ` holds (30_encoding.md R114, R121). -/
def decodeSeq (c : BitVec 5) : Except DecodeRefusal Instr :=
  match c.toNat with
  | 0x00 => .ok .idle
  | 0x01 => .ok .wStart
  | 0x02 => .ok .wWaitSb
  | 0x03 => .ok .wAddr
  | 0x04 => .ok .wWaitAddr
  | 0x05 => .ok .wClrAddr
  | 0x06 => .ok .wData
  | 0x07 => .ok .wWaitTxe
  | 0x08 => .ok .wWaitBtf
  | 0x09 => .ok .wStop
  | 0x0A => .ok .rStart
  | 0x0B => .ok .rWaitSb
  | 0x0C => .ok .rAddr
  | 0x0D => .ok .rAckpol
  | 0x0E => .ok .rWaitAddr
  | 0x0F => .ok .rClrAddr
  | 0x10 => .ok .rStage
  | 0x11 => .ok .rWaitRxne
  | 0x12 => .ok .rData
  | 0x13 => .ok .done
  | _ => .error (.reservedSeqCode c)

/-! ### The encoder, from the same tables -/

/-- What stands for an instruction: a 32-bit word on a port, or a value of `SEQ`. -/
inductive Code where
  | word (w : Word)
  | seq (c : BitVec 5)
  deriving DecidableEq, Repr

/-- Format Z (30_encoding.md R111). -/
def encodeZ (op : BitVec 8) : Word := op ++ 0#24
/-- Format T (30_encoding.md R111). -/
def encodeT (op : BitVec 8) (addr : BitVec 7) (m n : BitVec 8) : Word := op ++ (0#1 ++ (addr ++ (m ++ n)))
/-- Format B (30_encoding.md R111). -/
def encodeB (op idx byte : BitVec 8) : Word := op ++ (0#8 ++ (idx ++ byte))

/-- The word or code of an instruction (30_encoding.md R112, R113, R114). -/
def encode : Instr → Code
  | .bteInit => .word (encodeZ 0x01#8)
  | .bteTransact addr m n => .word (encodeT 0x02#8 addr m n)
  | .bteWput idx byte => .word (encodeB 0x03#8 idx byte)
  | .bteRget idx => .word (encodeB 0x04#8 idx 0#8)
  | .drsInit => .word (encodeZ 0x10#8)
  | .drsPut idx byte => .word (encodeB 0x11#8 idx byte)
  | .stkInit => .word (encodeZ 0x20#8)
  | .stkTrigger => .word (encodeZ 0x21#8)
  | .evDispUpdate => .word (encodeZ 0x80#8)
  | .evDispCompare => .word (encodeZ 0x81#8)
  | .evTick => .word (encodeZ 0x82#8)
  | .evSensorEdge => .word (encodeZ 0x83#8)
  | .idle => .seq Seq.idle
  | .wStart => .seq Seq.wStart
  | .wWaitSb => .seq Seq.wWaitSb
  | .wAddr => .seq Seq.wAddr
  | .wWaitAddr => .seq Seq.wWaitAddr
  | .wClrAddr => .seq Seq.wClrAddr
  | .wData => .seq Seq.wData
  | .wWaitTxe => .seq Seq.wWaitTxe
  | .wWaitBtf => .seq Seq.wWaitBtf
  | .wStop => .seq Seq.wStop
  | .rStart => .seq Seq.rStart
  | .rWaitSb => .seq Seq.rWaitSb
  | .rAddr => .seq Seq.rAddr
  | .rAckpol => .seq Seq.rAckpol
  | .rWaitAddr => .seq Seq.rWaitAddr
  | .rClrAddr => .seq Seq.rClrAddr
  | .rStage => .seq Seq.rStage
  | .rWaitRxne => .seq Seq.rWaitRxne
  | .rData => .seq Seq.rData
  | .done => .seq Seq.done

/-- The instruction a word or code stands for. -/
def decode : Code → Except DecodeRefusal Instr
  | .word w => decodeWord w
  | .seq c => decodeSeq c

/-! ### The rows of the opcode table (30_encoding.md R112, R113, R114) -/

/-- The fixed bits of a row: `match` and `mask` of a 32-bit word, or the code of a micro-operation. -/
inductive TableRow where
  | word (mask pattern : Word)
  | seq (c : BitVec 5)
  deriving DecidableEq, Repr

/-- Is the word or code one of the row's: `w & mask == match`, or the code itself. -/
def TableRow.covers : TableRow → Code → Bool
  | .word mask pattern, .word w => decide (w &&& mask = pattern)
  | .seq c, .seq d => decide (d = c)
  | .word _ _, .seq _ => false
  | .seq _, .word _ => false

/-- The row of an instruction. -/
def Instr.tableRow : Instr → TableRow
  | .bteInit => .word 0xFFFFFFFF#32 0x01000000#32
  | .bteTransact _ _ _ => .word 0xFF800000#32 0x02000000#32
  | .bteWput _ _ => .word 0xFFFF0000#32 0x03000000#32
  | .bteRget _ => .word 0xFFFF00FF#32 0x04000000#32
  | .drsInit => .word 0xFFFFFFFF#32 0x10000000#32
  | .drsPut _ _ => .word 0xFFFFFC00#32 0x11000000#32
  | .stkInit => .word 0xFFFFFFFF#32 0x20000000#32
  | .stkTrigger => .word 0xFFFFFFFF#32 0x21000000#32
  | .evDispUpdate => .word 0xFFFFFFFF#32 0x80000000#32
  | .evDispCompare => .word 0xFFFFFFFF#32 0x81000000#32
  | .evTick => .word 0xFFFFFFFF#32 0x82000000#32
  | .evSensorEdge => .word 0xFFFFFFFF#32 0x83000000#32
  | .idle => .seq 0x00#5
  | .wStart => .seq 0x01#5
  | .wWaitSb => .seq 0x02#5
  | .wAddr => .seq 0x03#5
  | .wWaitAddr => .seq 0x04#5
  | .wClrAddr => .seq 0x05#5
  | .wData => .seq 0x06#5
  | .wWaitTxe => .seq 0x07#5
  | .wWaitBtf => .seq 0x08#5
  | .wStop => .seq 0x09#5
  | .rStart => .seq 0x0A#5
  | .rWaitSb => .seq 0x0B#5
  | .rAddr => .seq 0x0C#5
  | .rAckpol => .seq 0x0D#5
  | .rWaitAddr => .seq 0x0E#5
  | .rClrAddr => .seq 0x0F#5
  | .rStage => .seq 0x10#5
  | .rWaitRxne => .seq 0x11#5
  | .rData => .seq 0x12#5
  | .done => .seq 0x13#5

/-- The instruction the decoder reads from the `nbits` bits of `w`, as the opcode table numbers them: 32 bits are a command or
event word, 5 bits (a whole byte with the bits above 0) are a sequencer code. -/
def decodeTableWord (nbits w : Nat) : Option Instr :=
  if nbits = 32 then
    if w < 2 ^ 32 then (decodeWord (BitVec.ofNat 32 w)).toOption else none
  else if nbits = 5 ∨ nbits = 8 then
    if w < 2 ^ 5 then (decodeSeq (BitVec.ofNat 5 w)).toOption else none
  else none

end Sys2Proof
end

