-- ==== Sys2Proof/Machine/Params.lean ====
section
/-! DEFINITION. The values the parameters of 00_scope.md R9 have after reset: the spec's defaults, and the free values of Config
for the sensor constants the spec does not give (notes/assumptions/9.md, 21.md). -/

namespace Sys2Proof

/-- P11: the patterns of the ten digits (30_encoding.md R117). -/
def defaultSegTable : Vector Byte 10 :=
  #v[0x3F#8, 0x06#8, 0x5B#8, 0x4F#8, 0x66#8, 0x6D#8, 0x7D#8, 0x07#8, 0x7F#8, 0x6F#8]

/-- P12: bit 7 is the decimal point (30_encoding.md R116). -/
def defaultDpMask : Byte := 0x80#8

/-- P15: display 0, tick 1, edge 1 (60_exceptions.md R288). -/
def defaultPrio : Prio := { disp := 0, tick := 1, edge := 1 }

/-- P18: every constant free but the byte order, whose default is high byte first (20_memory.md R84). -/
def openSensor : Sensor :=
  { addr := Config.sensorAddr, regFreshReset := Config.regFreshReset, regIntMode := Config.regIntMode,
    regIntClear := Config.regIntClear, regStart := Config.regStart, modeLow := Config.modeLow,
    modeHigh := Config.modeHigh, valIntClear := Config.valIntClear, valStartCont := Config.valStartCont,
    calTable := Config.calTable, order := .highFirst }

/-- The parameters of a machine that nobody has set otherwise (00_scope.md R9). -/
def defaultParams : Params :=
  { segTable := defaultSegTable, dpMask := defaultDpMask, prio := defaultPrio, sched := .enginePriority,
    overflow := .faults, sensor := openSensor }

end Sys2Proof
end

