-- ==== Sys2Proof/Machine/State.lean ====
section
/-! DEFINITION. The state: everything the spec gives the machine (INVENTORY.md, heading State), one record per unit, plain data;
the reasons a step can stop; and the state after reset (10_state.md R49, R52, R55; 70_reset_and_hazards.md R321). -/

namespace Sys2Proof.Machine

/-! ### Bus transaction engine and bus interface unit -/

/-- The BTE's registers (10_state.md R32, R33, R40). `BUSY` is not a register (R34): see `State.busy`. -/
structure Bte where
  /-- `SEQ`, the sequencer's program counter -/
  seq : BitVec 5
  /-- `DEVADDR` -/
  devaddr : BitVec 7
  /-- `WLEN` -/
  wlen : BitVec 8
  /-- `RLEN` -/
  rlen : BitVec 8
  /-- `WIDX` -/
  widx : BitVec 8
  /-- `RIDX` -/
  ridx : BitVec 8
  deriving DecidableEq, Repr

/-- `MODE` (10_state.md R52): all eight codes of the 3-bit register are named. -/
inductive Mode where
  | idle
  | started
  | addrTx
  | addrRx
  | tx
  | rx
  | rxHalt
  | fail
  deriving DecidableEq, Repr

/-- The BIU's state: hidden state (10_state.md R52), control bits (R44), status flags (R43). -/
structure Biu where
  mode : Mode
  /-- `CLAIM` -/
  claim : Bool
  /-- `DR` -/
  dr : Byte
  /-- `DRF`: `DR` holds a byte not yet consumed -/
  drf : Bool
  /-- `SH` -/
  sh : Byte
  /-- `SHF`: `SH` holds a byte not yet sent -/
  shf : Bool
  /-- `ACKL`: the decision latched for the byte now being received -/
  ackl : Bool
  /-- `ACKEN` -/
  acken : Bool
  /-- `STARTREQ` -/
  startreq : Bool
  /-- `STOPREQ` -/
  stopreq : Bool
  /-- `SB`, start-acknowledged -/
  sb : Bool
  /-- `ADDR`, address-acknowledged -/
  addr : Bool
  /-- `TXE`, transmit buffer empty -/
  txe : Bool
  /-- `BTF`, byte transfer complete -/
  btf : Bool
  /-- `RXNE`, receive buffer not empty -/
  rxne : Bool
  deriving DecidableEq, Repr

/-- The symbols of `WIRE` (00_scope.md R14). -/
inductive Symbol where
  /-- `S`, a start condition -/
  | start
  /-- `Sr`, a repeated start -/
  | restart
  /-- `AD(b)`, an address byte -/
  | address (b : Byte)
  /-- `DW(b)`, a data byte from master to device -/
  | dataOut (b : Byte)
  /-- `DR(b)`, a data byte from device to master -/
  | dataIn (b : Byte)
  /-- `As`, acknowledge given by the device -/
  | deviceAck
  /-- `Ns`, no-acknowledge given by the device -/
  | deviceNack
  /-- `Am`, acknowledge given by the master -/
  | masterAck
  /-- `Nm`, no-acknowledge given by the master -/
  | masterNack
  /-- `P`, a stop condition -/
  | stop
  deriving DecidableEq, Repr

/-! ### Display, stopwatch, interrupts -/

/-- The DRS's registers and its timer's bits (10_state.md R35, R36, R45). -/
structure Drs where
  /-- `DIGIT_IDX` -/
  digitIdx : BitVec 2
  /-- `AN[3:0]`, active low -/
  an : BitVec 4
  /-- `CA[7:0]`, active low -/
  ca : BitVec 8
  /-- `DEN` -/
  den : Bool
  /-- `UIF` -/
  uif : Bool
  /-- `CCIF` -/
  ccif : Bool
  /-- which of its two events the display timer raises next; not decided before its first event (42_display_refresh.md R216,
  U7; notes/assumptions/14.md) -/
  nextRaise : Option DispEvent
  deriving DecidableEq, Repr

/-- `SW_STATE` (10_state.md R37): the three states, code 3 is never held (30_encoding.md R121). -/
inductive SwState where
  | idle
  | running
  | stopped
  deriving DecidableEq, Repr

/-- The STK's registers (10_state.md R37, R46). -/
structure Stk where
  /-- `SW_STATE` -/
  swState : SwState
  /-- `COUNTER` -/
  counter : BitVec 32
  /-- `TEN` -/
  ten : Bool
  /-- `TIF` -/
  tif : Bool
  deriving DecidableEq, Repr

/-- One bit per interrupt source. -/
structure Lines where
  disp : Bool
  tick : Bool
  edge : Bool
  deriving DecidableEq, Repr

/-- The interrupt bits (10_state.md R47, R48). -/
structure Irq where
  /-- `IE[s]` -/
  ie : Lines
  /-- `INSVC[s]` -/
  insvc : Lines
  /-- `EIF` -/
  eif : Bool
  deriving DecidableEq, Repr

/-! ### The host's contexts (44_sensor_bridge_host.md) -/

/-- The two contexts that give commands (60_exceptions.md R299). -/
inductive Giver where
  | main
  | edge
  deriving DecidableEq, Repr

/-- What a host context does next (44_sensor_bridge_host.md R261, R262, R264; notes/assumptions/11.md). -/
inductive HostOp where
  /-- give a word to the command port -/
  | command (w : Word)
  /-- the edge handler's `if v == MODE_LOW` (R262) -/
  | edgeTest
  /-- the boot sequence's `if f != 0` (R264) -/
  | freshTest
  /-- board support's enable-interrupt-line (70_reset_and_hazards.md R323) -/
  | enableLine (s : Source)
  /-- the end of a handler (60_exceptions.md R293) -/
  | handlerReturn
  deriving DecidableEq, Repr

/-- One context: what it has still to do, whether a `BTE_TRANSACT` of its own holds it, and the byte its last `BTE_RGET`
answered. -/
structure HostCtx where
  prog : List HostOp
  awaiting : Bool
  resp : Byte
  deriving DecidableEq, Repr

/-- The two contexts, and which of them drives the command port (the model's own field). -/
structure Contexts where
  main : HostCtx
  edge : HostCtx
  giver : Giver
  deriving DecidableEq, Repr

/-! ### The environment (the model's own fields, notes/assumptions 1, 2, 4, 19) -/

/-- One turn of one agent (10_state.md R30), or one act of board support, of a test bench or of the reset line. A turn whose
agent has no enabled step changes nothing. -/
inductive Turn where
  /-- the sequencer executes the micro-operation in `SEQ` (40_bus_transaction_engine.md R146) -/
  | seq
  /-- the BIU takes its enabled move (41_bus_interface_unit.md R195) -/
  | biu
  /-- the display timer raises its next event; `first` is the event if this is its first (42_display_refresh.md R216) -/
  | dispTimer (first : DispEvent)
  /-- the tick timer raises a tick (43_stopwatch_tick.md R241) -/
  | tickTimer
  /-- a falling edge on the sensor line (60_exceptions.md R286) -/
  | sensorEdge
  /-- the dispatcher serves one source; `tie` settles equal urgency, `first` two pending display events (60_exceptions.md R289,
  R290) -/
  | dispatch (tie : Source) (first : DispEvent)
  /-- a host context takes its next step -/
  | host (g : Giver)
  /-- main-line decides to give this word after what it already has to give (44_sensor_bridge_host.md R260) -/
  | submit (w : Word)
  /-- main-line decides to give the boot sequence after what it already has to give (70_reset_and_hazards.md R323,
  notes/assumptions/26.md) -/
  | boot
  /-- board support's enable-interrupt-line (60_exceptions.md R287) -/
  | enableLine (s : Source)
  /-- a test bench injects an event word (30_encoding.md R113, 60_exceptions.md R286) -/
  | inject (w : Word)
  /-- reset (70_reset_and_hazards.md R320) -/
  | reset
  deriving DecidableEq, Repr

/-- What the outside does: the turns to come, the device's answers to come (P16), and two counters for free values. -/
structure Env where
  /-- the turns still to come -/
  agenda : List Turn
  /-- answers to `dev.addr_ack` and `dev.data_ack`, in the order they are asked -/
  acks : List Bool
  /-- answers to `dev.read_byte` -/
  bytes : List Byte
  /-- how many free values have been used -/
  freeIx : Nat
  /-- how many resets there have been -/
  boots : Nat
  deriving DecidableEq, Repr

/-! ### Memories and the whole state -/

/-- A byte memory: the entries that differ from what an unlisted entry reads as, indices strictly rising. -/
abbrev Memory := List Host.Cell

/-- The three byte memories (20_memory.md R80). -/
inductive Space where
  | fb
  | wbuf
  | rbuf
  deriving DecidableEq, Repr

/-- The whole machine. -/
structure State where
  bte : Bte
  biu : Biu
  drs : Drs
  stk : Stk
  irq : Irq
  /-- `FB` -/
  fb : Memory
  /-- `WBUF` -/
  wbuf : Memory
  /-- `RBUF` -/
  rbuf : Memory
  /-- `WIRE`, oldest first (00_scope.md R14) -/
  wire : List Symbol
  /-- `RSP` (30_encoding.md R127) -/
  rsp : Byte
  ctx : Contexts
  env : Env
  par : Params
  deriving DecidableEq, Repr

/-- Why the machine stops with a fault. -/
inductive Fault where
  /-- Raised by the sequencer's turn when `SEQ` holds a reserved code 0x14 to 0x1F. The spec gives no behaviour there and no
  rule produces such a code (30_encoding.md R121, U2). Safe: the hardware may go on where the model stops. -/
  | reservedSeq (code : BitVec 5)
  /-- Raised by `EV_TICK` when `COUNTER` = 2^32 − 1 and the parameter `overflow` is `faults`, its value after reset
  (43_stopwatch_tick.md R240, D18, U9; notes/assumptions/6.md). Safe: the hardware wraps to 0 where the model stops. -/
  | counterOverflow
  deriving DecidableEq, Repr

/-- Why a step has no meaning. -/
inductive Refusal where
  /-- Raised by an arm of `exec` for an instruction that has no meaning yet; no arm does. Safe. -/
  | notModelled (mnemonic : String)
  deriving DecidableEq, Repr

/-- The answer of a meaning. -/
abbrev Result := Host.Outcome State Fault Refusal

/-- Every line clear. -/
def Lines.none : Lines := { disp := false, tick := false, edge := false }

/-- A context with nothing to do. -/
def HostCtx.empty : HostCtx := { prog := [], awaiting := false, resp := 0#8 }

/-- The machine after reset (10_state.md R49, R52, R55, R56; 70_reset_and_hazards.md R321). `DEVADDR`, `WLEN`, `RLEN`, `DR`, `SH`
and `RSP` have no reset value in the spec and are 0 here (notes/assumptions/8.md, 10.md). -/
def State.reset : State :=
  { bte := { seq := Seq.idle, devaddr := 0#7, wlen := 0#8, rlen := 0#8, widx := 0#8, ridx := 0#8 },
    biu := { mode := .idle, claim := false, dr := 0#8, drf := false, sh := 0#8, shf := false, ackl := false,
             acken := false, startreq := false, stopreq := false,
             sb := false, addr := false, txe := false, btf := false, rxne := false },
    drs := { digitIdx := 0#2, an := 0xF#4, ca := 0xFF#8, den := false, uif := false, ccif := false, nextRaise := none },
    stk := { swState := .idle, counter := 0#32, ten := false, tif := false },
    irq := { ie := Lines.none, insvc := Lines.none, eif := false },
    fb := [], wbuf := [], rbuf := [], wire := [], rsp := 0#8,
    ctx := { main := HostCtx.empty, edge := HostCtx.empty, giver := .main },
    env := { agenda := [], acks := [], bytes := [], freeIx := 0, boots := 0 },
    par := defaultParams }

end Sys2Proof.Machine
end

