-- ==== Sys2Proof/Machine/Operands.lean ====
section
/-! DEFINITION. The values the block assembles from its registers (30_encoding.md R115, R118, R119; 43_stopwatch_tick.md R235 to
R237, R243): address bytes, decimal digits, segment bitmaps, display lines, and the successors that depend on a register. -/

namespace Sys2Proof.Machine

/-! ### The bus -/

/-- P14 `RW_WRITE` (20_memory.md R83). -/
def rwWrite : BitVec 1 := 0#1

/-- P14 `RW_READ` (20_memory.md R83). -/
def rwRead : BitVec 1 := 1#1

/-- The address byte `{DEVADDR[6:0], rw}` (30_encoding.md R115). -/
def addressByte (devaddr : BitVec 7) (rw : BitVec 1) : Byte := devaddr ++ rw

/-- Does an address byte select the write direction: bit 0 is 0 (41_bus_interface_unit.md R190). -/
def isWriteAddress (b : Byte) : Bool := !b.getLsbD 0

/-- The first micro-operation of a transaction of `m` and `n` bytes (40_bus_transaction_engine.md R144). -/
def firstMicro (m n : BitVec 8) : BitVec 5 :=
  if 0 < m.toNat then Seq.wStart else if 0 < n.toNat then Seq.rStart else Seq.done

/-- After `W_DATA`, with `WIDX` already incremented (40_bus_transaction_engine.md R156). -/
def afterWData (widx wlen : BitVec 8) : BitVec 5 :=
  if widx.toNat < wlen.toNat then Seq.wWaitTxe else Seq.wWaitBtf

/-- After `W_WAIT_BTF` (40_bus_transaction_engine.md R158). -/
def afterWriteDrained (rlen : BitVec 8) : BitVec 5 :=
  if rlen = 0#8 then Seq.wStop else Seq.rStart

/-- After `R_DATA`, with `RIDX` already incremented (40_bus_transaction_engine.md R168). -/
def afterRData (ridx rlen : BitVec 8) : BitVec 5 :=
  if ridx.toNat < rlen.toNat then Seq.rStage else Seq.done

/-- The staging iteration of the reception loop: index n − 2 for n ≥ 2, index 0 for n = 1 (40_bus_transaction_engine.md R166,
90_conflicts.md C5). -/
def isStaging (ridx rlen : BitVec 8) : Bool :=
  (decide (2 ≤ rlen.toNat) && decide (ridx.toNat = rlen.toNat - 2)) || (decide (rlen = 1#8) && decide (ridx = 0#8))

/-- The acknowledge policy pre-armed before the address wait (40_bus_transaction_engine.md R163). -/
def preArmedAck (rlen : BitVec 8) : Bool := decide (rlen ≠ 1#8)

/-! ### The display -/

/-- `AN[k] <- 0` (42_display_refresh.md R214). -/
def driveAnode (an : BitVec 4) (k : BitVec 2) : BitVec 4 := an &&& ~~~(1#4 <<< k.toNat)

/-- `CA[i] <- 0` for every `i` with `b[i] = 1` (42_display_refresh.md R214). -/
def driveCathodes (ca : BitVec 8) (b : Byte) : BitVec 8 := ca &&& ~~~b

/-- `(DIGIT_IDX + 1) mod 4` (43_stopwatch_tick.md R243 c). -/
def nextDigit (k : BitVec 2) : BitVec 2 := k + 1#2

/-- Every anode inactive. -/
def anodesHigh : BitVec 4 := 0xF#4

/-- Every cathode inactive. -/
def cathodesHigh : BitVec 8 := 0xFF#8

/-! ### Render (43_stopwatch_tick.md R235 to R237) -/

/-- P13 `BLANK` (30_encoding.md R116). -/
def blankPattern : Byte := 0x00#8

/-- The decimal digit `(c div unit) mod 10` (43_stopwatch_tick.md R236). -/
def digitAt (c : BitVec 32) (unit : Nat) : Fin 10 := ⟨c.toNat / unit % 10, Nat.mod_lt _ (by decide)⟩

/-- `SEG_TABLE[d]`. -/
def segmentOf (t : Vector Byte 10) (d : Fin 10) : Byte := t[d]

/-- The four segment bitmaps of a count, slot 0 first (43_stopwatch_tick.md R235). -/
structure Slots where
  s0 : Byte
  s1 : Byte
  s2 : Byte
  s3 : Byte
  deriving DecidableEq, Repr

/-- `RENDER(c)`'s bitmaps: digits 1 and 2 with leading-zero suppression, digit 3 with the point (43_stopwatch_tick.md R235, R237). -/
def renderSlots (p : Params) (c : BitVec 32) : Slots :=
  { s0 := if digitAt c 1000 = 0 then blankPattern else segmentOf p.segTable (digitAt c 1000),
    s1 := if digitAt c 1000 = 0 ∧ digitAt c 100 = 0 then blankPattern else segmentOf p.segTable (digitAt c 100),
    s2 := segmentOf p.segTable (digitAt c 10) ||| p.dpMask,
    s3 := segmentOf p.segTable (digitAt c 1) }

/-! ### Codes of the named registers -/

/-- The 2-bit code of `SW_STATE` (P19, 10_state.md R37). -/
def SwState.code : SwState → BitVec 2
  | .idle => 0#2
  | .running => 1#2
  | .stopped => 2#2

/-- The 3-bit code of `MODE` (10_state.md R52). -/
def Mode.code : Mode → BitVec 3
  | .idle => 0#3
  | .started => 1#3
  | .addrTx => 2#3
  | .addrRx => 3#3
  | .tx => 4#3
  | .rx => 5#3
  | .rxHalt => 6#3
  | .fail => 7#3

/-! ### Sensor register addresses (20_memory.md R84) -/

/-- The byte of `reg16` that goes first. -/
def regFirstByte (o : RegOrder) (reg : BitVec 16) : Byte :=
  match o with
  | .highFirst => reg.extractLsb' 8 8
  | .lowFirst => reg.extractLsb' 0 8

/-- The byte of `reg16` that goes second. -/
def regSecondByte (o : RegOrder) (reg : BitVec 16) : Byte :=
  match o with
  | .highFirst => reg.extractLsb' 0 8
  | .lowFirst => reg.extractLsb' 8 8

end Sys2Proof.Machine
end

