-- ==== Sys2Proof/Machine/Flags.lean ====
section
/-! DEFINITION. What each engine action and each BIU move does to the five status flags (10_state.md R43; 41_bus_interface_unit.md
R182 to R193), one function per cause, and which flag a micro-operation waits on. -/

namespace Sys2Proof.Machine

/-- `BTE_INIT`: all five flags to 0 (40_bus_transaction_engine.md R141). -/
def Biu.clearFlags (b : Biu) : Biu :=
  { b with sb := false, addr := false, txe := false, btf := false, rxne := false }

/-- `a_dr_write`: `TXE`, `BTF` to 0, and `SB` to 0 in mode STARTED (41_bus_interface_unit.md R185). -/
def Biu.flagsDrWrite (b : Biu) : Biu :=
  { b with txe := false, btf := false, sb := if b.mode = .started then false else b.sb }

/-- `a_dr_read`: `RXNE`, `BTF` to 0 (41_bus_interface_unit.md R186). -/
def Biu.flagsDrRead (b : Biu) : Biu := { b with rxne := false, btf := false }

/-- `a_clr_addr`: `ADDR` to 0, and `TXE` to 1 when the BIU becomes a transmitter (41_bus_interface_unit.md R187). -/
def Biu.flagsClrAddr (b : Biu) : Biu :=
  { b with addr := false, txe := if b.mode = .addrTx then true else b.txe }

/-- `M_STOP`: `TXE`, `BTF` to 0 (41_bus_interface_unit.md R188). -/
def Biu.flagsStop (b : Biu) : Biu := { b with txe := false, btf := false }

/-- `M_START`: `SB` to 1, `TXE`, `BTF` to 0 (41_bus_interface_unit.md R189). -/
def Biu.flagsStart (b : Biu) : Biu := { b with sb := true, txe := false, btf := false }

/-- `M_ADDR` acknowledged: `ADDR` to 1 (41_bus_interface_unit.md R190). -/
def Biu.flagsAddressAcked (b : Biu) : Biu := { b with addr := true }

/-- `M_TXLOAD`: `TXE` to 1 (41_bus_interface_unit.md R191). -/
def Biu.flagsTxload (b : Biu) : Biu := { b with txe := true }

/-- `M_TXBYTE` acknowledged: `BTF` to 1 when the data register is empty too (41_bus_interface_unit.md R192). -/
def Biu.flagsByteAcked (b : Biu) : Biu := { b with btf := if b.drf then b.btf else true }

/-- `M_RXBYTE`: `RXNE` to 1 (41_bus_interface_unit.md R193). -/
def Biu.flagsReceived (b : Biu) : Biu := { b with rxne := true }

/-- Has the sequencer an enabled step: an action always, a wait state when its flag is 1, `IDLE` never
(40_bus_transaction_engine.md R146, R150). -/
def seqReady (c : BitVec 5) (b : Biu) : Bool :=
  if c = Seq.idle then false
  else if c = Seq.wWaitSb then b.sb
  else if c = Seq.rWaitSb then b.sb
  else if c = Seq.wWaitAddr then b.addr
  else if c = Seq.rWaitAddr then b.addr
  else if c = Seq.wWaitTxe then b.txe
  else if c = Seq.wWaitBtf then b.btf
  else if c = Seq.rWaitRxne then b.rxne
  else true

end Sys2Proof.Machine
end

