-- ==== Sys2Proof/Machine/Ops.lean ====
section
/-! DEFINITION. The named operations over memories, registers, the wire, the device oracle and the interrupt bits. Entering and
leaving a handler stand here once (60_exceptions.md R291, R293); there is no exception to take (R280). -/

namespace Sys2Proof.Machine

/-! ### Byte memories (20_memory.md R80, R86) -/

/-- How many entries a space has (20_memory.md R80). -/
def Space.size : Space → Nat
  | .fb => 4
  | .wbuf => 256
  | .rbuf => 256

/-- What an unlisted entry reads as: a blank frame-buffer slot after reset (10_state.md R55), no value in the two buffers (R56). -/
def Space.unlisted : Space → Option Byte
  | .fb => some 0x00#8
  | .wbuf => none
  | .rbuf => none

/-- The entry listed at an index. -/
def Memory.find : Memory → Nat → Option Byte
  | [], _ => none
  | (k, v) :: m, a => if k = a then some v else Memory.find m a

/-- List an entry, in index order. -/
def Memory.insert : Memory → Nat → Byte → Memory
  | [], a, b => [(a, b)]
  | (k, v) :: m, a, b =>
    if a < k then (a, b) :: (k, v) :: m
    else if a = k then (a, b) :: m
    else (k, v) :: Memory.insert m a b

/-- Unlist an entry. -/
def Memory.erase : Memory → Nat → Memory
  | [], _ => []
  | (k, v) :: m, a => if k = a then m else (k, v) :: Memory.erase m a

/-- One byte, or no value: the listed entry, else what an unlisted entry of the space reads as. -/
def Memory.read (sp : Space) (m : Memory) (a : Nat) : Option Byte :=
  match Memory.find m a with
  | some b => some b
  | none => sp.unlisted

/-- Write one byte and keep the canonical form: the value an unlisted entry reads as is not listed. -/
def Memory.write (sp : Space) (m : Memory) (a : Nat) (b : Byte) : Memory :=
  if sp.unlisted = some b then Memory.erase m a else Memory.insert m a b

/-- Every listed index is at least `lo` and they rise strictly. -/
def Memory.risesFrom : Nat → Memory → Bool
  | _, [] => true
  | lo, (k, _) :: m => decide (lo ≤ k) && Memory.risesFrom (k + 1) m

/-- The canonical form: indices strictly rising, inside the space, and no entry equal to what an unlisted one reads as. -/
def Memory.wf (sp : Space) (m : Memory) : Bool :=
  Memory.risesFrom 0 m && m.all (fun e => decide (e.1 < sp.size) && decide (sp.unlisted ≠ some e.2))

/-- The memory of a space. -/
def State.mem (s : State) : Space → Memory
  | .fb => s.fb
  | .wbuf => s.wbuf
  | .rbuf => s.rbuf

/-- `MemRead(space, i, 1)` as far as it has a value (00_scope.md R11). -/
def State.readByte (s : State) (sp : Space) (i : Nat) : Option Byte := Memory.read sp (s.mem sp) i

/-- `MemWrite(space, i, 1, v)` (00_scope.md R11). -/
def State.writeByte (s : State) (sp : Space) (i : Nat) (v : Byte) : State :=
  match sp with
  | .fb => { s with fb := Memory.write .fb s.fb i v }
  | .wbuf => { s with wbuf := Memory.write .wbuf s.wbuf i v }
  | .rbuf => { s with rbuf := Memory.write .rbuf s.rbuf i v }

/-- The byte an entry that holds no value reads as: a free value per entry and reset (U3, notes/assumptions/3.md). -/
def powerUpByte (boots : Nat) (sp : Space) (i : Nat) : Byte :=
  match sp with
  | .fb => blankPattern
  | .wbuf => Config.wbufPowerUp boots i
  | .rbuf => Config.rbufPowerUp boots i

/-- `MemRead(space, i, 1)`: the byte of the entry, a free value where the entry holds none (10_state.md R56, U3). -/
def State.loadByte (s : State) (sp : Space) (i : Nat) : Byte :=
  match s.readByte sp i with
  | some b => b
  | none => powerUpByte s.env.boots sp i

/-! ### The sequencer -/

/-- `BUSY` (10_state.md R34). -/
def State.busy (s : State) : Bool := decide (s.bte.seq ≠ Seq.idle)

/-- `SEQ <- c` (00_scope.md R11). -/
def State.setSeq (s : State) (c : BitVec 5) : State := { s with bte := { s.bte with seq := c } }

/-- `hold until F`, then `SEQ <- c`: with the flag clear nothing changes (00_scope.md R12, 40_bus_transaction_engine.md R146). -/
def State.waitThen (s : State) (flag : Bool) (c : BitVec 5) : State := if flag then s.setSeq c else s

/-- `hold until SEQ == IDLE`, then an effect: a BTE command given while `BUSY` = 1 changes nothing and stays with its giver
(40_bus_transaction_engine.md R145). -/
def State.whenIdle (s : State) (effect : State → State) : State := if s.busy then s else effect s

/-! ### The wire, the device, free values -/

/-- `emit` (00_scope.md R14). -/
def State.emit (s : State) (x : Symbol) : State := { s with wire := s.wire ++ [x] }

/-- One more free value has been used. -/
def State.useFree (s : State) : State := { s with env := { s.env with freeIx := s.env.freeIx + 1 } }

/-- The answer to an acknowledge question: the next listed one, else `free`. -/
def State.ackAnswer (s : State) (free : Bool) : Bool :=
  match s.env.acks with
  | a :: _ => a
  | [] => free

/-- An acknowledge question has been asked. -/
def State.ackAsked (s : State) : State :=
  match s.env.acks with
  | _ :: rest => { s with env := { s.env with acks := rest } }
  | [] => s.useFree

/-- `dev.addr_ack(b)` (41_bus_interface_unit.md R181). -/
def State.devAddrAck (s : State) (b : Byte) : Bool := s.ackAnswer (Config.devAddrAck s.env.freeIx b)

/-- `dev.data_ack(b)` (41_bus_interface_unit.md R181). -/
def State.devDataAck (s : State) (b : Byte) : Bool := s.ackAnswer (Config.devDataAck s.env.freeIx b)

/-- `dev.read_byte()` (41_bus_interface_unit.md R181). -/
def State.devReadByte (s : State) : Byte :=
  match s.env.bytes with
  | b :: _ => b
  | [] => Config.devReadByte s.env.freeIx

/-- A byte has been taken from the device. -/
def State.byteAsked (s : State) : State :=
  match s.env.bytes with
  | _ :: rest => { s with env := { s.env with bytes := rest } }
  | [] => s.useFree

/-! ### Interrupt bits, handler entry and return -/

/-- The bit of a source. -/
def Lines.get (l : Lines) : Source → Bool
  | .disp => l.disp
  | .tick => l.tick
  | .edge => l.edge

/-- Write the bit of a source. -/
def Lines.set (l : Lines) (src : Source) (v : Bool) : Lines :=
  match src with
  | .disp => { l with disp := v }
  | .tick => { l with tick := v }
  | .edge => { l with edge := v }

/-- `PRIO(s)` (60_exceptions.md R288). -/
def State.urgency (s : State) : Source → Nat
  | .disp => s.par.prio.disp
  | .tick => s.par.prio.tick
  | .edge => s.par.prio.edge

/-- `pending(s)` (60_exceptions.md R289). -/
def State.pending (s : State) : Source → Bool
  | .disp => s.drs.uif || s.drs.ccif
  | .tick => s.stk.tif
  | .edge => s.irq.eif

/-- Handler entry: `INSVC[s] <- 1`, and nothing else is saved or changed (60_exceptions.md R291). -/
def State.enterHandler (s : State) (src : Source) : State :=
  { s with irq := { s.irq with insvc := s.irq.insvc.set src true } }

/-- Handler return: `INSVC[s] <- 0`, and nothing is restored (60_exceptions.md R293). -/
def State.leaveHandler (s : State) (src : Source) : State :=
  { s with irq := { s.irq with insvc := s.irq.insvc.set src false } }

/-- Board support's enable-interrupt-line: `IE[s] <- 1` (60_exceptions.md R287). -/
def State.enableLine (s : State) (src : Source) : State :=
  { s with irq := { s.irq with ie := s.irq.ie.set src true } }

/-! ### Host contexts -/

/-- A giver's context. -/
def Contexts.get (c : Contexts) : Giver → HostCtx
  | .main => c.main
  | .edge => c.edge

/-- Replace a giver's context. -/
def Contexts.set (c : Contexts) (g : Giver) (x : HostCtx) : Contexts :=
  match g with
  | .main => { c with main := x }
  | .edge => { c with edge := x }

/-- A giver's context. -/
def State.context (s : State) (g : Giver) : HostCtx := s.ctx.get g

/-- Replace a giver's context. -/
def State.setContext (s : State) (g : Giver) (x : HostCtx) : State := { s with ctx := s.ctx.set g x }

/-- The giver that drives the command port is held until the transaction retires (40_bus_transaction_engine.md R144). -/
def State.holdGiver (s : State) : State :=
  s.setContext s.ctx.giver { s.context s.ctx.giver with awaiting := true }

/-- The transaction retires: every held giver is released (40_bus_transaction_engine.md R169). -/
def State.releaseGivers (s : State) : State :=
  { s with ctx := { s.ctx with main := { s.ctx.main with awaiting := false }, edge := { s.ctx.edge with awaiting := false } } }

/-- `RSP <- v`, and the giver that asked has its answer (30_encoding.md R127). -/
def State.respond (s : State) (v : Byte) : State :=
  { s.setContext s.ctx.giver { s.context s.ctx.giver with resp := v } with rsp := v }

end Sys2Proof.Machine
end

