-- ==== Sys2Proof/Machine/Bridge.lean ====
section
/-! DEFINITION. The host's sequences as lists of what a context does next: the pseudo-instructions of 30_encoding.md R126, the edge
handler (44_sensor_bridge_host.md R262), the sensor boot sequence (R264), the boot order (70_reset_and_hazards.md R323); and the
meaning of `EV_SENSOR_EDGE`. -/

namespace Sys2Proof.Machine

/-- Give one instruction's word to the command port; only commands have one. -/
def giveInstr (i : Instr) : List HostOp :=
  match encode i with
  | .word w => [.command w]
  | .seq _ => []

/-- `SETDIGITS d0, d1, d2, d3` given by a host: four separate commands (30_encoding.md R126 a). -/
def giveSetDigits (d : Slots) : List HostOp :=
  giveInstr (.drsPut 0#8 d.s0) ++ giveInstr (.drsPut 1#8 d.s1) ++ giveInstr (.drsPut 2#8 d.s2) ++ giveInstr (.drsPut 3#8 d.s3)

/-- `bte.wput k, w0; bte.wput k+1, w1; …` -/
def giveWputs : Nat → List Byte → List HostOp
  | _, [] => []
  | k, w :: ws => giveInstr (.bteWput (BitVec.ofNat 8 k) w) ++ giveWputs (k + 1) ws

/-- `bte.rget k; …; bte.rget k + n − 1` -/
def giveRgets : Nat → Nat → List HostOp
  | _, 0 => []
  | k, n + 1 => giveInstr (.bteRget (BitVec.ofNat 8 k)) ++ giveRgets (k + 1) n

/-- `TRANSACT addr, [w0, …], n` (30_encoding.md R126 b). -/
def giveTransact (addr : BitVec 7) (ws : List Byte) (n : Nat) : List HostOp :=
  giveWputs 0 ws ++ giveInstr (.bteTransact addr (BitVec.ofNat 8 ws.length) (BitVec.ofNat 8 n)) ++ giveRgets 0 n

/-- `write_reg reg16, val` (30_encoding.md R126 c, 44_sensor_bridge_host.md R261). -/
def writeReg (c : Sensor) (reg : BitVec 16) (val : Byte) : List HostOp :=
  giveTransact c.addr [regFirstByte c.order reg, regSecondByte c.order reg, val] 0

/-- `read_reg reg16`: the byte read is the answer of the last `BTE_RGET` (30_encoding.md R126 d, 44_sensor_bridge_host.md R261). -/
def readReg (c : Sensor) (reg : BitVec 16) : List HostOp :=
  giveTransact c.addr [regFirstByte c.order reg, regSecondByte c.order reg] 1

/-- The end of the handler whatever the branch: the interrupt-clear write, then the return (44_sensor_bridge_host.md R262). -/
def edgeFinish (c : Sensor) : List HostOp := writeReg c c.regIntClear c.valIntClear ++ [.handlerReturn]

/-- The edge handler after its entry: read the mode, choose, finish (44_sensor_bridge_host.md R262); the test is replaced by its
branch when it is reached. -/
def edgeHandler (c : Sensor) : List HostOp := readReg c c.regIntMode ++ .edgeTest :: edgeFinish c

/-- The branch of the test on the mode `v`: near triggers and arms high, anything else arms low (44_sensor_bridge_host.md R262). -/
def edgeBranch (c : Sensor) (v : Byte) : List HostOp :=
  if v = c.modeLow then giveInstr .stkTrigger ++ writeReg c c.regIntMode c.modeHigh
  else writeReg c c.regIntMode c.modeLow

/-- The calibration writes, in table order (44_sensor_bridge_host.md R264). -/
def calibrate (c : Sensor) : List (BitVec 16 × Byte) → List HostOp
  | [] => []
  | (r, v) :: rest => writeReg c r v ++ calibrate c rest

/-- What follows the test of the fresh-out-of-reset value `f` (44_sensor_bridge_host.md R264). -/
def freshBranch (c : Sensor) (f : Byte) : List HostOp :=
  if f ≠ 0#8 then calibrate c c.calTable ++ writeReg c c.regFreshReset 0#8 else []

/-- `SENSOR_BOOT` (44_sensor_bridge_host.md R264); the test is replaced by its branch when it is reached. -/
def sensorBoot (c : Sensor) : List HostOp :=
  readReg c c.regFreshReset ++ [.freshTest] ++ writeReg c c.regIntMode c.modeLow ++ writeReg c c.regStart c.valStartCont

/-- `BOOT` after board support's clocks and pins (70_reset_and_hazards.md R323). -/
def bootSequence (c : Sensor) : List HostOp :=
  giveInstr .bteInit ++ giveInstr .stkInit ++ sensorBoot c ++
    [.enableLine .disp, .enableLine .tick, .enableLine .edge]

/-- `EV_SENSOR_EDGE`: clear the edge latch; the handler's body, host software, then runs step by step in the edge context while
`INSVC[EDGE]` = 1 (44_sensor_bridge_host.md R262, R267, notes/assumptions/12.md). -/
def execEvSensorEdge (s : State) : Result :=
  .next { s with
    irq := { s.irq with eif := false },
    ctx := { s.ctx with edge := { s.ctx.edge with prog := edgeHandler s.par.sensor } } }

end Sys2Proof.Machine
end

