-- ==== Sys2Proof/Machine/Biu.lean ====
section
/-! DEFINITION. The reference bus interface unit: the six actions the engine performs on it and the six moves it makes itself
(41_bus_interface_unit.md R182 to R193). -/

namespace Sys2Proof.Machine

/-- The transmitter is drained: mode TX with nothing in `DR` and nothing in `SH` (41_bus_interface_unit.md R188). -/
def Biu.drained (b : Biu) : Bool := decide (b.mode = .tx) && !b.shf && !b.drf

/-! ### Moves -/

/-- Is `M_STOP` enabled (41_bus_interface_unit.md R188). -/
def Biu.stopEnabled (b : Biu) : Bool := b.stopreq && (b.drained || decide (b.mode = .rxHalt))

/-- `M_STOP` (41_bus_interface_unit.md R188). -/
def State.mStop (s : State) : State :=
  { s.emit .stop with biu := { s.biu.flagsStop with mode := .idle, claim := false, stopreq := false } }

/-- `M_STOP` taken at once where it is enabled: the stop is eager (41_bus_interface_unit.md R183, R193). -/
def State.eagerStop (s : State) : State := if s.biu.stopEnabled then s.mStop else s

/-- Is `M_START` enabled (41_bus_interface_unit.md R189). -/
def Biu.startEnabled (b : Biu) : Bool :=
  b.startreq && !b.stopreq && (decide (b.mode = .idle) || b.drained || decide (b.mode = .rxHalt))

/-- `M_START` (41_bus_interface_unit.md R189). -/
def State.mStart (s : State) : State :=
  { s.emit (if s.biu.claim then .restart else .start) with
    biu := { s.biu.flagsStart with claim := true, startreq := false, mode := .started } }

/-- Is `M_ADDR` enabled (41_bus_interface_unit.md R190). -/
def Biu.addrEnabled (b : Biu) : Bool := decide (b.mode = .started) && b.drf

/-- `M_ADDR` (41_bus_interface_unit.md R190). -/
def State.mAddr (s : State) : State :=
  if s.devAddrAck s.biu.dr then
    { ((s.emit (.address s.biu.dr)).emit .deviceAck).ackAsked with
      biu := { s.biu.flagsAddressAcked with drf := false, mode := if isWriteAddress s.biu.dr then .addrTx else .addrRx } }
  else
    { ((s.emit (.address s.biu.dr)).emit .deviceNack).ackAsked with
      biu := { s.biu with drf := false, mode := .fail } }

/-- Is `M_TXLOAD` enabled (41_bus_interface_unit.md R191). -/
def Biu.txloadEnabled (b : Biu) : Bool := decide (b.mode = .tx) && b.drf && !b.shf

/-- `M_TXLOAD` (41_bus_interface_unit.md R191). -/
def State.mTxload (s : State) : State :=
  { s with biu := { s.biu.flagsTxload with sh := s.biu.dr, shf := true, drf := false } }

/-- Is `M_TXBYTE` enabled (41_bus_interface_unit.md R192). -/
def Biu.txbyteEnabled (b : Biu) : Bool := decide (b.mode = .tx) && b.shf

/-- `M_TXBYTE` (41_bus_interface_unit.md R192). -/
def State.mTxbyte (s : State) : State :=
  if s.devDataAck s.biu.sh then
    { ((s.emit (.dataOut s.biu.sh)).emit .deviceAck).ackAsked with
      biu := { s.biu.flagsByteAcked with shf := false } }
  else
    { ((s.emit (.dataOut s.biu.sh)).emit .deviceNack).ackAsked with
      biu := { s.biu with shf := false, mode := .fail } }

/-- Is `M_RXBYTE` enabled (41_bus_interface_unit.md R193). -/
def Biu.rxbyteEnabled (b : Biu) : Bool := decide (b.mode = .rx) && !b.drf

/-- `M_RXBYTE`: the byte is acknowledged as latched when it started; the next decision is latched from the policy as it stands, or
the receiver halts and a pending stop is carried out (41_bus_interface_unit.md R193). -/
def State.mRxbyte (s : State) : State :=
  if s.biu.ackl then
    { ((s.emit (.dataIn s.devReadByte)).emit .masterAck).byteAsked with
      biu := { s.biu.flagsReceived with dr := s.devReadByte, drf := true, ackl := s.biu.acken } }
  else
    State.eagerStop
      { ((s.emit (.dataIn s.devReadByte)).emit .masterNack).byteAsked with
        biu := { s.biu.flagsReceived with dr := s.devReadByte, drf := true, mode := .rxHalt } }

/-- The moves that are not eager (41_bus_interface_unit.md R195, R196). -/
inductive Move where
  | start
  | addr
  | txload
  | txbyte
  | rxbyte
  deriving DecidableEq, Repr

/-- Is a move enabled. -/
def Biu.enabled (b : Biu) : Move → Bool
  | .start => b.startEnabled
  | .addr => b.addrEnabled
  | .txload => b.txloadEnabled
  | .txbyte => b.txbyteEnabled
  | .rxbyte => b.rxbyteEnabled

/-- The enabled move, if there is one: at most one is (41_bus_interface_unit.md R196). -/
def Biu.nextMove (b : Biu) : Option Move :=
  if b.startEnabled then some .start
  else if b.addrEnabled then some .addr
  else if b.txloadEnabled then some .txload
  else if b.txbyteEnabled then some .txbyte
  else if b.rxbyteEnabled then some .rxbyte
  else none

/-- Take a move. -/
def State.takeMove (s : State) : Move → State
  | .start => s.mStart
  | .addr => s.mAddr
  | .txload => s.mTxload
  | .txbyte => s.mTxbyte
  | .rxbyte => s.mRxbyte

/-! ### Actions of the engine -/

/-- `a_start()` (41_bus_interface_unit.md R182). -/
def State.aStart (s : State) : State := { s with biu := { s.biu with startreq := true } }

/-- `a_stop()` (41_bus_interface_unit.md R183). -/
def State.aStop (s : State) : State := State.eagerStop { s with biu := { s.biu with stopreq := true } }

/-- `a_ack(b)` (41_bus_interface_unit.md R184). -/
def State.aAck (s : State) (b : Bool) : State := { s with biu := { s.biu with acken := b } }

/-- `a_dr_write(v)`; over a byte not yet taken `DR` becomes a free value (41_bus_interface_unit.md R185, U4,
notes/assumptions/4.md). -/
def State.aDrWrite (s : State) (v : Byte) : State :=
  if s.biu.drf then
    { s.useFree with biu := { s.biu.flagsDrWrite with dr := Config.drOverwrite s.env.freeIx s.biu.dr v, drf := true } }
  else
    { s with biu := { s.biu.flagsDrWrite with dr := v, drf := true } }

/-- The byte `a_dr_read()` returns: `DR`, a free value when `RXNE` = 0 (41_bus_interface_unit.md R186, U4). -/
def State.drReadValue (s : State) : Byte := if s.biu.rxne then s.biu.dr else Config.drEmptyRead s.env.freeIx

/-- The effect of `a_dr_read()` (41_bus_interface_unit.md R186). -/
def State.aDrRead (s : State) : State :=
  { (if s.biu.rxne then s else s.useFree) with biu := { s.biu.flagsDrRead with drf := false } }

/-- `a_clr_addr()`: the BIU becomes a transmitter, or a receiver with the decision for byte 0 latched (41_bus_interface_unit.md
R187). -/
def State.aClrAddr (s : State) : State :=
  match s.biu.mode with
  | .addrTx => { s with biu := { s.biu.flagsClrAddr with mode := .tx } }
  | .addrRx => { s with biu := { s.biu.flagsClrAddr with mode := .rx, ackl := s.biu.acken } }
  | .idle => { s with biu := s.biu.flagsClrAddr }
  | .started => { s with biu := s.biu.flagsClrAddr }
  | .tx => { s with biu := s.biu.flagsClrAddr }
  | .rx => { s with biu := s.biu.flagsClrAddr }
  | .rxHalt => { s with biu := s.biu.flagsClrAddr }
  | .fail => { s with biu := s.biu.flagsClrAddr }

end Sys2Proof.Machine
end

