-- ==== Sys2Proof/Machine/BusEngine.lean ====
section
/-! DEFINITION. The four commands of the bus transaction engine (40_bus_transaction_engine.md R141 to R145). Given while `BUSY` = 1
each is held: nothing changes and the word stays with its giver (R145). -/

namespace Sys2Proof.Machine

/-- The reset state of the engine and the BIU; buffers and operand registers, `DR` and `SH` are kept
(40_bus_transaction_engine.md R141, 41_bus_interface_unit.md R197). -/
def State.initEngine (s : State) : State :=
  { s with
    bte := { s.bte with seq := Seq.idle, widx := 0#8, ridx := 0#8 },
    biu := { s.biu.clearFlags with
      mode := .idle, claim := false, drf := false, shf := false, ackl := false,
      acken := false, startreq := false, stopreq := false } }

/-- Acceptance of a transaction: latch the operands, zero the indices, go to the first micro-operation, hold the giver
(40_bus_transaction_engine.md R144). With m = n = 0 the first micro-operation is `DONE` (R172, notes/assumptions/5.md). -/
def State.beginTransaction (s : State) (addr : BitVec 7) (m n : BitVec 8) : State :=
  State.holdGiver
    { s with bte := { seq := firstMicro m n, devaddr := addr, wlen := m, rlen := n, widx := 0#8, ridx := 0#8 } }

/-- `BTE_INIT` (40_bus_transaction_engine.md R141). -/
def execBteInit (s : State) : Result := .next (s.whenIdle State.initEngine)

/-- `BTE_WPUT idx, byte` (40_bus_transaction_engine.md R142). -/
def execBteWput (idx : BitVec 8) (byte : Byte) (s : State) : Result :=
  .next (s.whenIdle fun t => t.writeByte .wbuf idx.toNat byte)

/-- `BTE_RGET idx` (40_bus_transaction_engine.md R143). -/
def execBteRget (idx : BitVec 8) (s : State) : Result :=
  .next (s.whenIdle fun t => t.respond (t.loadByte .rbuf idx.toNat))

/-- `BTE_TRANSACT addr, m, n` (40_bus_transaction_engine.md R144). -/
def execBteTransact (addr : BitVec 7) (m n : BitVec 8) (s : State) : Result :=
  .next (s.whenIdle fun t => t.beginTransaction addr m n)

end Sys2Proof.Machine
end

