-- ==== Sys2Proof/Machine/Sequencer.lean ====
section
/-! DEFINITION. The twenty micro-operations of the BTE sequencer (40_bus_transaction_engine.md R150 to R169). A wait state whose
flag is 0 changes nothing: the sequencer has no enabled step (R146). -/

namespace Sys2Proof.Machine

/-- `IDLE` rests; its only way out is the acceptance of a `BTE_TRANSACT`, which writes `SEQ` itself (R150). -/
def execIdle (s : State) : Result := .next s

/-- `W_START` (R151). -/
def execWStart (s : State) : Result := .next (s.aStart.setSeq Seq.wWaitSb)

/-- `W_WAIT_SB` (R152). -/
def execWWaitSb (s : State) : Result := .next (s.waitThen s.biu.sb Seq.wAddr)

/-- `W_ADDR` (R153). -/
def execWAddr (s : State) : Result :=
  .next ((s.aDrWrite (addressByte s.bte.devaddr rwWrite)).setSeq Seq.wWaitAddr)

/-- `W_WAIT_ADDR` (R154). -/
def execWWaitAddr (s : State) : Result := .next (s.waitThen s.biu.addr Seq.wClrAddr)

/-- `W_CLR_ADDR` (R155). -/
def execWClrAddr (s : State) : Result := .next (s.aClrAddr.setSeq Seq.wData)

/-- `WIDX <- WIDX + 1` at 8 bits (43_stopwatch_tick.md R243 d). -/
def State.countWritten (s : State) : State := { s with bte := { s.bte with widx := s.bte.widx + 1#8 } }

/-- `RIDX <- RIDX + 1` at 8 bits (43_stopwatch_tick.md R243 d). -/
def State.countRead (s : State) : State := { s with bte := { s.bte with ridx := s.bte.ridx + 1#8 } }

/-- `W_DATA` (R156). -/
def execWData (s : State) : Result :=
  .next ((s.aDrWrite (s.loadByte .wbuf s.bte.widx.toNat)).countWritten.setSeq
    (afterWData (s.bte.widx + 1#8) s.bte.wlen))

/-- `W_WAIT_TXE` (R157). -/
def execWWaitTxe (s : State) : Result := .next (s.waitThen s.biu.txe Seq.wData)

/-- `W_WAIT_BTF` (R158). -/
def execWWaitBtf (s : State) : Result := .next (s.waitThen s.biu.btf (afterWriteDrained s.bte.rlen))

/-- `W_STOP` (R159). -/
def execWStop (s : State) : Result := .next (s.aStop.setSeq Seq.done)

/-- `R_START` (R160). -/
def execRStart (s : State) : Result := .next (s.aStart.setSeq Seq.rWaitSb)

/-- `R_WAIT_SB` (R161). -/
def execRWaitSb (s : State) : Result := .next (s.waitThen s.biu.sb Seq.rAddr)

/-- `R_ADDR` (R162). -/
def execRAddr (s : State) : Result :=
  .next ((s.aDrWrite (addressByte s.bte.devaddr rwRead)).setSeq Seq.rAckpol)

/-- `R_ACKPOL` (R163). -/
def execRAckpol (s : State) : Result := .next ((s.aAck (preArmedAck s.bte.rlen)).setSeq Seq.rWaitAddr)

/-- `R_WAIT_ADDR` (R164). -/
def execRWaitAddr (s : State) : Result := .next (s.waitThen s.biu.addr Seq.rClrAddr)

/-- `R_CLR_ADDR` (R165). -/
def execRClrAddr (s : State) : Result := .next (s.aClrAddr.setSeq Seq.rStage)

/-- The staging act: clear the policy and request the stop ahead of the byte they govern (R166). -/
def State.stageEnd (s : State) : State := (s.aAck false).aStop

/-- `R_STAGE` (R166). -/
def execRStage (s : State) : Result :=
  .next ((if isStaging s.bte.ridx s.bte.rlen then s.stageEnd else s).setSeq Seq.rWaitRxne)

/-- `R_WAIT_RXNE` (R167). -/
def execRWaitRxne (s : State) : Result := .next (s.waitThen s.biu.rxne Seq.rData)

/-- `R_DATA` (R168). -/
def execRData (s : State) : Result :=
  .next ((s.aDrRead.writeByte .rbuf s.bte.ridx.toNat s.drReadValue).countRead.setSeq
    (afterRData (s.bte.ridx + 1#8) s.bte.rlen))

/-- `DONE`: `SEQ` returns to `IDLE` and the giver is released (R169). -/
def execDone (s : State) : Result := .next (s.releaseGivers.setSeq Seq.idle)

end Sys2Proof.Machine
end

