-- ==== Sys2Proof/Machine/Display.lean ====
section
/-! DEFINITION. The display refresh scheduler: two commands and two event handlers (42_display_refresh.md R211, R212, R214, R215). -/

namespace Sys2Proof.Machine

/-- `for k in 0..3: MemWrite(FB, k, 1, 0x00)` (42_display_refresh.md R211). -/
def State.blankSlots (s : State) : State :=
  (((s.writeByte .fb 0 0x00#8).writeByte .fb 1 0x00#8).writeByte .fb 2 0x00#8).writeByte .fb 3 0x00#8

/-- `DRS_INIT`'s effect, which `STK_INIT` performs too (42_display_refresh.md R211). The timer's alternation is not touched:
"it does not stop and restart the timer's phase". -/
def State.initDisplay (s : State) : State :=
  { s.blankSlots with
    drs := { s.drs with
      an := anodesHigh, ca := cathodesHigh, digitIdx := 0#2, uif := false, ccif := false, den := true } }

/-- One slot write: index 0 to 3 names a slot, any other index changes nothing (42_display_refresh.md R212, 20_memory.md R87). -/
def State.putSlot (s : State) (idx : Nat) (b : Byte) : State :=
  if idx < Space.size .fb then s.writeByte .fb idx b else s

/-- `SETDIGITS`'s four slot writes in order, here inside one transition (42_display_refresh.md R213). -/
def State.putSlots (s : State) (d : Slots) : State :=
  (((s.putSlot 0 d.s0).putSlot 1 d.s1).putSlot 2 d.s2).putSlot 3 d.s3

/-- `DRS_INIT` (42_display_refresh.md R211). -/
def execDrsInit (s : State) : Result := .next s.initDisplay

/-- `DRS_PUT idx, byte` (42_display_refresh.md R212). -/
def execDrsPut (idx : BitVec 8) (byte : Byte) (s : State) : Result := .next (s.putSlot idx.toNat byte)

/-- Update handler: light the current digit, drive no line high, advance the index (42_display_refresh.md R214). -/
def execEvDispUpdate (s : State) : Result :=
  .next { s with drs := { s.drs with
    uif := false,
    an := driveAnode s.drs.an s.drs.digitIdx,
    ca := driveCathodes s.drs.ca (s.loadByte .fb s.drs.digitIdx.toNat),
    digitIdx := nextDigit s.drs.digitIdx } }

/-- Compare handler: all outputs inactive (42_display_refresh.md R215). -/
def execEvDispCompare (s : State) : Result :=
  .next { s with drs := { s.drs with ccif := false, an := anodesHigh, ca := cathodesHigh } }

end Sys2Proof.Machine
end

