-- ==== Sys2Proof/Machine/Stopwatch.lean ====
section
/-! DEFINITION. The stopwatch tick unit: two commands, the tick handler and render (43_stopwatch_tick.md R231, R232, R234, R235). -/

namespace Sys2Proof.Machine

/-- `RENDER(COUNTER)` (43_stopwatch_tick.md R235). -/
def State.render (s : State) : State := s.putSlots (renderSlots s.par s.stk.counter)

/-- IDLE to RUNNING: start the tick timer (43_stopwatch_tick.md R232). -/
def State.startStopwatch (s : State) : State :=
  { s with stk := { s.stk with ten := true, swState := .running } }

/-- RUNNING to STOPPED: stop the tick timer, clear its pending flag (43_stopwatch_tick.md R232). -/
def State.stopStopwatch (s : State) : State :=
  { s with stk := { s.stk with ten := false, tif := false, swState := .stopped } }

/-- STOPPED to IDLE: reset the counter and re-render (43_stopwatch_tick.md R232). -/
def State.clearStopwatch (s : State) : State :=
  State.render { s with stk := { s.stk with counter := 0#32, ten := false, swState := .idle } }

/-- `STK_INIT` (43_stopwatch_tick.md R231). -/
def execStkInit (s : State) : Result :=
  .next (State.render { s.initDisplay with stk := { swState := .idle, counter := 0#32, ten := false, tif := false } })

/-- `STK_TRIGGER` (43_stopwatch_tick.md R232). -/
def execStkTrigger (s : State) : Result :=
  .next (match s.stk.swState with
    | .idle => s.startStopwatch
    | .running => s.stopStopwatch
    | .stopped => s.clearStopwatch)

/-- May `COUNTER` be incremented: always under `wraps`, below 2^32 − 1 under `faults` (43_stopwatch_tick.md R240, D18). -/
def State.canCount (s : State) : Bool :=
  match s.par.overflow with
  | .faults => decide (s.stk.counter ≠ 0xFFFFFFFF#32)
  | .wraps => true

/-- A tick served: `TIF` cleared, the counter one higher at 32 bits, the new count shown (43_stopwatch_tick.md R234, R243 a). -/
def State.countTick (s : State) : State :=
  State.render { s with stk := { s.stk with tif := false, counter := s.stk.counter + 1#32 } }

/-- Tick handler: it does not test `SW_STATE`; at 2^32 − 1 it faults by name, or wraps as the hardware does, by the parameter
`overflow` (43_stopwatch_tick.md R234, R240, D18, U9; notes/assumptions/6.md). -/
def execEvTick (s : State) : Result := if s.canCount then .next s.countTick else .fault .counterOverflow

end Sys2Proof.Machine
end

