-- ==== Sys2Proof/Machine/Dispatch.lean ====
section
/-! DEFINITION. The meaning of every instruction: one arm per row of spec/opcode_table.json. -/

namespace Sys2Proof.Machine

def exec (i : Instr) (s : State) : Host.Outcome State Fault Refusal :=
  match i with
  | .bteInit => Sys2Proof.Machine.execBteInit s
  | .bteTransact addr m n => Sys2Proof.Machine.execBteTransact addr m n s
  | .bteWput idx byte => Sys2Proof.Machine.execBteWput idx byte s
  | .bteRget idx => Sys2Proof.Machine.execBteRget idx s
  | .drsInit => Sys2Proof.Machine.execDrsInit s
  | .drsPut idx byte => Sys2Proof.Machine.execDrsPut idx byte s
  | .stkInit => Sys2Proof.Machine.execStkInit s
  | .stkTrigger => Sys2Proof.Machine.execStkTrigger s
  | .evDispUpdate => Sys2Proof.Machine.execEvDispUpdate s
  | .evDispCompare => Sys2Proof.Machine.execEvDispCompare s
  | .evTick => Sys2Proof.Machine.execEvTick s
  | .evSensorEdge => Sys2Proof.Machine.execEvSensorEdge s
  | .idle => Sys2Proof.Machine.execIdle s
  | .wStart => Sys2Proof.Machine.execWStart s
  | .wWaitSb => Sys2Proof.Machine.execWWaitSb s
  | .wAddr => Sys2Proof.Machine.execWAddr s
  | .wWaitAddr => Sys2Proof.Machine.execWWaitAddr s
  | .wClrAddr => Sys2Proof.Machine.execWClrAddr s
  | .wData => Sys2Proof.Machine.execWData s
  | .wWaitTxe => Sys2Proof.Machine.execWWaitTxe s
  | .wWaitBtf => Sys2Proof.Machine.execWWaitBtf s
  | .wStop => Sys2Proof.Machine.execWStop s
  | .rStart => Sys2Proof.Machine.execRStart s
  | .rWaitSb => Sys2Proof.Machine.execRWaitSb s
  | .rAddr => Sys2Proof.Machine.execRAddr s
  | .rAckpol => Sys2Proof.Machine.execRAckpol s
  | .rWaitAddr => Sys2Proof.Machine.execRWaitAddr s
  | .rClrAddr => Sys2Proof.Machine.execRClrAddr s
  | .rStage => Sys2Proof.Machine.execRStage s
  | .rWaitRxne => Sys2Proof.Machine.execRWaitRxne s
  | .rData => Sys2Proof.Machine.execRData s
  | .done => Sys2Proof.Machine.execDone s

end Sys2Proof.Machine
end

