-- ==== Sys2Proof/Machine/Sched.lean ====
section
/-! DEFINITION. The agents' turns (10_state.md R30): sequencer, BIU, timers, sensor line, dispatcher, host contexts, board
support, test bench, reset. Each takes the meaning of instructions as an argument `run`, so that Step.lean only has to name it. -/

namespace Sys2Proof.Machine

/-! ### Sequencer and BIU -/

/-- The sequencer's turn: execute the micro-operation whose code is in `SEQ` (40_bus_transaction_engine.md R146). -/
def seqTurn (run : Instr → State → Result) (s : State) : Result :=
  match decodeSeq s.bte.seq with
  | .ok i => run i s
  | .error _ => .fault (.reservedSeq s.bte.seq)

/-- May the BIU move now: under engine-priority only while the sequencer has no enabled step (41_bus_interface_unit.md R195). -/
def State.biuMayMove (s : State) : Bool :=
  match s.par.sched with
  | .enginePriority => !seqReady s.bte.seq s.biu
  | .free => true

/-- The move the BIU takes in its turn. -/
def State.biuChoice (s : State) : Option Move := if s.biuMayMove then s.biu.nextMove else none

/-- The BIU's turn (41_bus_interface_unit.md R195). -/
def State.biuTurn (s : State) : State :=
  match s.biuChoice with
  | some m => s.takeMove m
  | none => s

/-! ### Timers and the sensor line -/

/-- The other display event. -/
def otherDispEvent : DispEvent → DispEvent
  | .update => .compare
  | .compare => .update

/-- Set the pending flag of a display event (60_exceptions.md R286). -/
def State.raiseDisp (s : State) : DispEvent → State
  | .update => { s with drs := { s.drs with uif := true } }
  | .compare => { s with drs := { s.drs with ccif := true } }

/-- Which event the display timer raises next; `first` settles its very first one (42_display_refresh.md R216, U7). -/
def State.dispEventDue (s : State) (first : DispEvent) : DispEvent :=
  match s.drs.nextRaise with
  | some e => e
  | none => first

/-- The display timer's turn: while `DEN` = 1 its two events alternate strictly (42_display_refresh.md R216). -/
def State.dispTimerTurn (s : State) (first : DispEvent) : State :=
  if s.drs.den then
    let t := s.raiseDisp (s.dispEventDue first)
    { t with drs := { t.drs with nextRaise := some (otherDispEvent (s.dispEventDue first)) } }
  else s

/-- `TIF <- 1`. -/
def State.raiseTick (s : State) : State := { s with stk := { s.stk with tif := true } }

/-- The tick timer's turn: while `TEN` = 1 it raises a tick (43_stopwatch_tick.md R241). -/
def State.tickTimerTurn (s : State) : State := if s.stk.ten then s.raiseTick else s

/-- `EIF <- 1`, at each falling edge of the sensor line (60_exceptions.md R286). -/
def State.raiseEdge (s : State) : State := { s with irq := { s.irq with eif := true } }

/-- A test bench injects an event word by setting the event's flag; any other word changes nothing (30_encoding.md R113,
60_exceptions.md R286). -/
def State.injectWord (s : State) (w : Word) : State :=
  if w = 0x80000000#32 then s.raiseDisp .update
  else if w = 0x81000000#32 then s.raiseDisp .compare
  else if w = 0x82000000#32 then s.raiseTick
  else if w = 0x83000000#32 then s.raiseEdge
  else s

/-! ### The dispatcher (60_exceptions.md R289, R290) -/

/-- Does some source in service have `PRIO(t) ≤ PRIO(src)`. -/
def State.masked (s : State) (src : Source) : Bool :=
  (s.irq.insvc.disp && decide (s.urgency .disp ≤ s.urgency src)) ||
  (s.irq.insvc.tick && decide (s.urgency .tick ≤ s.urgency src)) ||
  (s.irq.insvc.edge && decide (s.urgency .edge ≤ s.urgency src))

/-- A source is eligible: pending, enabled, not masked. -/
def State.eligible (s : State) (src : Source) : Bool := s.pending src && s.irq.ie.get src && !s.masked src

/-- A source the dispatcher may pick: eligible, and no eligible source has a smaller `PRIO`. -/
def State.mayServe (s : State) (src : Source) : Bool :=
  s.eligible src &&
  (!s.eligible .disp || decide (s.urgency src ≤ s.urgency .disp)) &&
  (!s.eligible .tick || decide (s.urgency src ≤ s.urgency .tick)) &&
  (!s.eligible .edge || decide (s.urgency src ≤ s.urgency .edge))

/-- The source served: the turn's own choice among those of least `PRIO`, if it is one. Where it is none, the first of display, tick
and edge among them: R290 and U11 leave the pick open, and this one is the model's (DESIGN CHOICE, notes/assumptions/29.md). -/
def State.served (s : State) (tie : Source) : Option Source :=
  if s.mayServe tie then some tie
  else if s.mayServe .disp then some .disp
  else if s.mayServe .tick then some .tick
  else if s.mayServe .edge then some .edge
  else none

/-- The event whose handler runs; with both display events pending the turn's choice settles which (60_exceptions.md R290 c). -/
def State.eventOf (s : State) (first : DispEvent) : Source → Instr
  | .disp =>
    match s.drs.uif, s.drs.ccif, first with
    | true, false, _ => .evDispUpdate
    | false, true, _ => .evDispCompare
    | _, _, .update => .evDispUpdate
    | _, _, .compare => .evDispCompare
  | .tick => .evTick
  | .edge => .evSensorEdge

/-- The end of the step that served a source: the block's own handlers have returned, the edge handler has only begun
(60_exceptions.md R289, R292). -/
def State.afterService (s : State) : Source → State
  | .disp => s.leaveHandler .disp
  | .tick => s.leaveHandler .tick
  | .edge => s

/-- Carry on after a result. -/
def thenState (r : Result) (f : State → State) : Result :=
  match r with
  | .next t => .next (f t)
  | .fault e => .fault e
  | .refused e => .refused e

/-- The dispatcher's turn (60_exceptions.md R289). -/
def dispatchTurn (run : Instr → State → Result) (tie : Source) (first : DispEvent) (s : State) : Result :=
  match s.served tie with
  | none => .next s
  | some src => thenState (run (s.eventOf first src) (s.enterHandler src)) (fun t => t.afterService src)

/-! ### Host contexts -/

/-- The giver's list without its head, and the giver at the port. -/
def State.popOp (s : State) (g : Giver) : State :=
  { s with ctx := { s.ctx.set g { s.ctx.get g with prog := (s.ctx.get g).prog.drop 1 } with giver := g } }

/-- Put operations before what the giver has still to do. -/
def State.pushOps (s : State) (g : Giver) (ops : List HostOp) : State :=
  s.setContext g { s.context g with prog := ops ++ (s.context g).prog }

/-- Does the port take the instruction now: a BTE command only while `BUSY` = 0 (40_bus_transaction_engine.md R145). -/
def State.accepts (s : State) (i : Instr) : Bool :=
  match i.kind with
  | .bteCommand => !s.busy
  | .unitCommand => true
  | .event => true
  | .micro => true

/-- A giver gives a word to the command port: a held word stays, an accepted one leaves the list and takes effect, a reserved one
leaves the list and changes nothing (40_bus_transaction_engine.md R145, 30_encoding.md R120, notes/assumptions/7.md). -/
def giveWord (run : Instr → State → Result) (g : Giver) (w : Word) (s : State) : Result :=
  match decodeCommand w with
  | .ok i => if s.accepts i then run i (s.popOp g) else .next s
  | .error _ => .next (s.popOp g)

/-- Handler return, meaningful in the edge context only (60_exceptions.md R293). -/
def State.returnFrom (s : State) : Giver → State
  | .main => s
  | .edge => s.leaveHandler .edge

/-- One operation of a giver. -/
def hostOp (run : Instr → State → Result) (g : Giver) (s : State) : HostOp → Result
  | .command w => giveWord run g w s
  | .edgeTest => .next ((s.popOp g).pushOps g (edgeBranch s.par.sensor (s.context g).resp))
  | .freshTest => .next ((s.popOp g).pushOps g (freshBranch s.par.sensor (s.context g).resp))
  | .enableLine src => .next ((s.popOp g).enableLine src)
  | .handlerReturn => .next ((s.popOp g).returnFrom g)

/-- A host context's turn: nothing while its transaction has not retired or when it has nothing to do
(40_bus_transaction_engine.md R144, 44_sensor_bridge_host.md R262). -/
def hostTurn (run : Instr → State → Result) (g : Giver) (s : State) : Result :=
  if (s.context g).awaiting then .next s
  else
    match (s.context g).prog with
    | [] => .next s
    | op :: _ => hostOp run g s op

/-- Main-line will give one more word. -/
def State.submitWord (s : State) (w : Word) : State :=
  s.setContext .main { s.context .main with prog := (s.context .main).prog ++ [.command w] }

/-- Main-line decides to give the boot sequence after what it already has to give (70_reset_and_hazards.md R323). That nothing it
still has to give is dropped, a BTE command held at the head of its list (R145) among it, is the model's choice: the spec does not
say what a boot does to words not yet given (DESIGN CHOICE, notes/assumptions/26.md). -/
def State.beginBoot (s : State) : State :=
  s.setContext .main { s.context .main with prog := (s.context .main).prog ++ bootSequence s.par.sensor }

/-! ### Reset -/

/-- Reset: the state after reset whatever was held before; the parameters, the turns to come and the device's answers to come are
not the block's, and the count of resets rises (70_reset_and_hazards.md R320, notes/assumptions/19.md). -/
def State.resetTurn (s : State) : State :=
  { State.reset with env := { s.env with boots := s.env.boots + 1 }, par := s.par }

/-! ### One turn, and whose turn it is -/

/-- One turn of the agent named. -/
def takeTurn (run : Instr → State → Result) (t : Turn) (s : State) : Result :=
  match t with
  | .seq => seqTurn run s
  | .biu => .next s.biuTurn
  | .dispTimer first => .next (s.dispTimerTurn first)
  | .tickTimer => .next s.tickTimerTurn
  | .sensorEdge => .next s.raiseEdge
  | .dispatch tie first => dispatchTurn run tie first s
  | .host g => hostTurn run g s
  | .submit w => .next (s.submitWord w)
  | .boot => .next s.beginBoot
  | .enableLine src => .next (s.enableLine src)
  | .inject w => .next (s.injectWord w)
  | .reset => .next s.resetTurn

/-- Can a giver take a step: not awaiting, and not holding a BTE command the port does not take. -/
def State.canGive (s : State) (g : Giver) : Bool :=
  !(s.context g).awaiting &&
  match (s.context g).prog with
  | [] => false
  | .command w :: _ =>
    match decodeCommand w with
    | .ok i => s.accepts i
    | .error _ => true
  | _ :: _ => true

/-- Whose turn it is when no turn is listed: sequencer, BIU, edge context, dispatcher, main-line, the first that can move; the
sequencer again when none can, which then changes nothing (notes/assumptions/1.md). Its dispatcher's turn names the display source and
the update event, so that of open picks (60_exceptions.md R290, U10, U11) it takes display before tick before edge, and update before
compare (DESIGN CHOICE, notes/assumptions/29.md). -/
def State.quietTurn (s : State) : Turn :=
  if seqReady s.bte.seq s.biu then .seq
  else if s.biuChoice.isSome then .biu
  else if s.canGive .edge then .host .edge
  else if (s.served .disp).isSome then .dispatch .disp .update
  else if s.canGive .main then .host .main
  else .seq

/-- The first listed turn is used up. -/
def State.dropTurn (s : State) : State := { s with env := { s.env with agenda := s.env.agenda.drop 1 } }

/-- The turn of this step. -/
def State.turnNow (s : State) : Turn :=
  match s.env.agenda with
  | t :: _ => t
  | [] => s.quietTurn

/-- One step of the machine over a meaning of instructions. -/
def stepWith (run : Instr → State → Result) (s : State) : Result := takeTurn run s.turnNow s.dropTurn

/-! ### Placing an instruction where the next step runs it -/

/-- A command word becomes the next thing main-line gives, and main-line has the next turn. -/
def State.placeCommand (s : State) (w : Word) : State :=
  { s with
    ctx := { s.ctx with main := { s.ctx.main with prog := .command w :: s.ctx.main.prog, awaiting := false } },
    env := { s.env with agenda := .host .main :: s.env.agenda } }

/-- The source of an event word (30_encoding.md R113). -/
def eventSource (w : Word) : Source :=
  if w = 0x82000000#32 then .tick else if w = 0x83000000#32 then .edge else .disp

/-- The display event of an event word. -/
def eventChoice (w : Word) : DispEvent := if w = 0x81000000#32 then .compare else .update

/-- An event word is injected by setting its flag; its source alone is enabled, none is in service, and the dispatcher has the
next turn. -/
def State.placeEvent (s : State) (w : Word) : State :=
  let t := s.injectWord w
  { t with
    irq := { t.irq with ie := Lines.none.set (eventSource w) true, insvc := Lines.none },
    env := { t.env with agenda := .dispatch (eventSource w) (eventChoice w) :: t.env.agenda } }

/-- A sequencer code becomes the value of `SEQ`, and the sequencer has the next turn. -/
def State.placeSeq (s : State) (c : BitVec 5) : State :=
  { s.setSeq c with env := { s.env with agenda := .seq :: s.env.agenda } }

/-- Place the instruction of `nbits` bits `w` where the next step runs it (notes/assumptions/17.md). -/
def State.placeInstr (s : State) (nbits w : Nat) : State :=
  if nbits = 32 then
    if Word.isEvent (BitVec.ofNat 32 w) then s.placeEvent (BitVec.ofNat 32 w) else s.placeCommand (BitVec.ofNat 32 w)
  else s.placeSeq (BitVec.ofNat 5 w)

end Sys2Proof.Machine
end

