-- ==== Sys2Proof/Machine/Step.lean ====
section
/-! DEFINITION. One step: the turn that is due, over the meanings of `exec`. -/

namespace Sys2Proof.Machine

/-- One step of the machine (10_state.md R30, 20_memory.md R93). -/
def step (s : State) : Host.Outcome State Fault Refusal := stepWith exec s

/-- `s` with the instruction of `nbits` bits `w` placed where the next step runs it. -/
def State.withFetchWord (s : State) (nbits w : Nat) : State := s.placeInstr nbits w

end Sys2Proof.Machine
end

