-- ==== Sys2Proof/Safety.lean ====
section
/-! DEFINITION. The terms the statements use: what is lit, when the machine hangs, the shapes of a transaction on the wire, the
successor table of `SEQ`, and the invariants. -/

namespace Sys2Proof.Machine

/-! ### Observations -/

/-- Segment `i` of digit `k` is lit: both lines are low (10_state.md R36). -/
def State.lit (s : State) (k i : Nat) : Bool := !s.drs.an.getLsbD k && !s.drs.ca.getLsbD i

/-- The four slots hold these bitmaps. -/
def State.shows (s : State) (d : Slots) : Prop :=
  s.readByte .fb 0 = some d.s0 ∧ s.readByte .fb 1 = some d.s1 ∧ s.readByte .fb 2 = some d.s2 ∧ s.readByte .fb 3 = some d.s3

/-- The micro-operations of the read phase, `R_START` to `R_DATA` (30_encoding.md R114). -/
def inReadPhase (c : BitVec 5) : Bool := decide (0x0A ≤ c.toNat) && decide (c.toNat ≤ 0x12)

/-- The engine waits, and neither it nor the BIU has an enabled step (60_exceptions.md R283). -/
def State.hangs (s : State) : Bool := s.busy && !seqReady s.bte.seq s.biu && decide (s.biu.nextMove = none)

/-- Instructions one after the other, stopping at the first fault or refusal. -/
def execAll : List Instr → State → Result
  | [], s => .next s
  | i :: is, s =>
    match exec i s with
    | .next t => execAll is t
    | .fault e => .fault e
    | .refused e => .refused e

/-- `SEG_TABLE[x mod 10]` (30_encoding.md R117). -/
def digitPattern (p : Params) (x : Nat) : Byte := p.segTable[Fin.ofNat 10 x]

/-- The four slots show the count `c` by the formulas of 43_stopwatch_tick.md R236 and the blanking of R237. -/
def State.showsCount (t : State) (c : Nat) : Prop :=
  t.readByte .fb 0 = some (if c / 1000 % 10 = 0 then 0x00#8 else digitPattern t.par (c / 1000)) ∧
  t.readByte .fb 1 = some (if c / 1000 % 10 = 0 ∧ c / 100 % 10 = 0 then 0x00#8 else digitPattern t.par (c / 100)) ∧
  t.readByte .fb 2 = some (digitPattern t.par (c / 10) ||| t.par.dpMask) ∧
  t.readByte .fb 3 = some (digitPattern t.par c)

/-- The staging iteration: index n − 2 for n ≥ 2, index 0 for n = 1 (40_bus_transaction_engine.md R166). -/
def Bte.stages (e : Bte) : Prop :=
  (2 ≤ e.rlen.toNat ∧ e.ridx.toNat = e.rlen.toNat - 2) ∨ (e.rlen.toNat = 1 ∧ e.ridx.toNat = 0)

/-- A requested stop can go on the bus at once: transmitter drained, or receiver halted (41_bus_interface_unit.md R188). -/
def Biu.stopCanGo (b : Biu) : Prop := (b.mode = .tx ∧ b.shf = false ∧ b.drf = false) ∨ b.mode = .rxHalt

/-! ### The dispatcher's choice (60_exceptions.md R289, R290) -/

/-- A source is eligible: pending, enabled, and nothing as urgent or more urgent is in service. -/
def State.eligibleFor (s : State) (src : Source) : Prop :=
  s.pending src = true ∧ s.irq.ie.get src = true ∧
  ∀ other : Source, s.irq.insvc.get other = true → s.urgency src < s.urgency other

/-- An eligible source of least `PRIO`. -/
def State.mostUrgent (s : State) (src : Source) : Prop :=
  s.eligibleFor src ∧ ∀ other : Source, s.eligibleFor other → s.urgency src ≤ s.urgency other

/-- The handler of a source; with both display events pending, the one that is picked (60_exceptions.md R285, R290 c). -/
def State.handlerOf (s : State) (picked : DispEvent) : Source → Instr
  | .disp =>
    if s.drs.ccif = false then .evDispUpdate
    else if s.drs.uif = false then .evDispCompare
    else if picked = .update then .evDispUpdate else .evDispCompare
  | .tick => .evTick
  | .edge => .evSensorEdge

/-- `t` is `s` after the source has been served: `INSVC` raised, the handler run, and `INSVC` lowered unless the handler is the
sensor edge's, which is not atomic (60_exceptions.md R289). -/
def State.servedTo (s : State) (src : Source) (picked : DispEvent) (t : State) : Prop :=
  ∃ u : State,
    exec (s.handlerOf picked src) { s with irq := { s.irq with insvc := s.irq.insvc.set src true } } = .next u ∧
    t = if src = .edge then u else { u with irq := { u.irq with insvc := u.irq.insvc.set src false } }

/-! ### Register accesses of the host, word by word (44_sensor_bridge_host.md R261, 30_encoding.md R126) -/

/-- The two bytes of a register address in the order `REG_ADDR_ORDER` gives (20_memory.md R84). -/
def regAddressBytes (c : Sensor) (reg : BitVec 16) : Byte × Byte :=
  match c.order with
  | .highFirst => (BitVec.ofNat 8 (reg.toNat / 256), BitVec.ofNat 8 reg.toNat)
  | .lowFirst => (BitVec.ofNat 8 reg.toNat, BitVec.ofNat 8 (reg.toNat / 256))

/-- `write_reg reg, val`: three bytes of `WBUF`, one transaction of three bytes. -/
def writeRegWords (c : Sensor) (reg : BitVec 16) (val : Byte) : List HostOp :=
  [.command (encodeB 0x03#8 0#8 (regAddressBytes c reg).1), .command (encodeB 0x03#8 1#8 (regAddressBytes c reg).2),
   .command (encodeB 0x03#8 2#8 val), .command (encodeT 0x02#8 c.addr 3#8 0#8)]

/-- `read_reg reg`: two bytes of `WBUF`, one transaction of two bytes and one, the byte fetched. -/
def readRegWords (c : Sensor) (reg : BitVec 16) : List HostOp :=
  [.command (encodeB 0x03#8 0#8 (regAddressBytes c reg).1), .command (encodeB 0x03#8 1#8 (regAddressBytes c reg).2),
   .command (encodeT 0x02#8 c.addr 2#8 1#8), .command (encodeB 0x04#8 0#8 0#8)]

/-! ### A transaction on the wire (40_bus_transaction_engine.md R170, 30_encoding.md R128) -/

/-- The bytes a transaction of `m` write bytes sends, in order (20_memory.md R81). -/
def State.writeBytes (s : State) (m : Nat) : List Byte := (List.range m).map (fun i => s.loadByte .wbuf i)

/-- `AD(A_w) As (DW(w_i) As)…` -/
def writeSymbols (a : BitVec 7) (ws : List Byte) : List Symbol :=
  .address (addressByte a rwWrite) :: .deviceAck :: ws.flatMap (fun w => [.dataOut w, .deviceAck])

/-- `DR(r_i) Am … DR(r_(n−1)) Nm`: every byte but the last is acknowledged by the master. -/
def receiveSymbols : List Byte → List Symbol
  | [] => []
  | [r] => [.dataIn r, .masterNack]
  | r :: rs => .dataIn r :: .masterAck :: receiveSymbols rs

/-- `AD(A_r) As DR(r_0) Am … DR(r_(n−1)) Nm` -/
def readSymbols (a : BitVec 7) (rs : List Byte) : List Symbol :=
  .address (addressByte a rwRead) :: .deviceAck :: receiveSymbols rs

/-- What a whole transaction puts on the wire (40_bus_transaction_engine.md R170, R172). -/
def transactionSymbols (a : BitVec 7) (ws rs : List Byte) : List Symbol :=
  match ws, rs with
  | [], [] => []
  | [], r :: rs => .start :: readSymbols a (r :: rs) ++ [.stop]
  | w :: ws, [] => .start :: writeSymbols a (w :: ws) ++ [.stop]
  | w :: ws, r :: rs => .start :: writeSymbols a (w :: ws) ++ .restart :: readSymbols a (r :: rs) ++ [.stop]

/-- How many acknowledge questions a transaction asks: one per byte from master to device (41_bus_interface_unit.md R181). -/
def acksAsked (m n : Nat) : Nat := (if m = 0 then 0 else m + 1) + (if n = 0 then 0 else 1)

/-! ### The successor table of `SEQ` (40_bus_transaction_engine.md R171) -/

/-- What a micro-operation, or an accepted `BTE_TRANSACT`, writes to `SEQ`; the condition is evaluated on the registers as its own
writes leave them. The other instructions write no successor of the table. -/
def seqSuccessor (e : Bte) : Instr → Option (BitVec 5)
  | .bteTransact _ _ _ => some (if 0 < e.wlen.toNat then 0x01#5 else if 0 < e.rlen.toNat then 0x0A#5 else 0x13#5)
  | .wStart => some 0x02#5
  | .wWaitSb => some 0x03#5
  | .wAddr => some 0x04#5
  | .wWaitAddr => some 0x05#5
  | .wClrAddr => some 0x06#5
  | .wData => some (if e.widx.toNat < e.wlen.toNat then 0x07#5 else 0x08#5)
  | .wWaitTxe => some 0x06#5
  | .wWaitBtf => some (if e.rlen.toNat = 0 then 0x09#5 else 0x0A#5)
  | .wStop => some 0x13#5
  | .rStart => some 0x0B#5
  | .rWaitSb => some 0x0C#5
  | .rAddr => some 0x0D#5
  | .rAckpol => some 0x0E#5
  | .rWaitAddr => some 0x0F#5
  | .rClrAddr => some 0x10#5
  | .rStage => some 0x11#5
  | .rWaitRxne => some 0x12#5
  | .rData => some (if e.ridx.toNat < e.rlen.toNat then 0x10#5 else 0x13#5)
  | .done => some 0x00#5
  | .idle => none
  | .bteInit => none
  | .bteWput _ _ => none
  | .bteRget _ => none
  | .drsInit => none
  | .drsPut _ _ => none
  | .stkInit => none
  | .stkTrigger => none
  | .evDispUpdate => none
  | .evDispCompare => none
  | .evTick => none
  | .evSensorEdge => none

/-! ### Invariants -/

/-- The three memories are canonical (20_memory.md R80). -/
def State.memoriesOk (s : State) : Bool :=
  Memory.wf .fb s.fb && Memory.wf .wbuf s.wbuf && Memory.wf .rbuf s.rbuf

/-- `SEQ` holds one of the twenty codes (10_state.md R41). -/
def State.seqOk (s : State) : Bool := decide (s.bte.seq.toNat ≤ 0x13)

/-- The read phase is entered only when bytes are to be read (40_bus_transaction_engine.md R173). -/
def State.readsAskedFor (s : State) : Bool := !inReadPhase s.bte.seq || decide (s.bte.rlen ≠ 0#8)

/-- The stopwatch's invariants (a), (b), (d) of 43_stopwatch_tick.md R239. -/
def Stk.ok (k : Stk) : Bool :=
  decide (k.ten = decide (k.swState = .running)) && (!k.tif || decide (k.swState = .running)) &&
  (decide (k.swState ≠ .idle) || decide (k.counter = 0#32))

/-- No turn still to come is a test bench's. -/
def State.noBench (s : State) : Bool := s.env.agenda.all (fun t => match t with | .inject _ => false | _ => true)

/-- An edge handler under way: commands and tests, then the return at the very end (44_sensor_bridge_host.md R262). -/
def handlerBody : List HostOp → Bool
  | [] => false
  | [op] => decide (op = .handlerReturn)
  | op :: ops => decide (op ≠ .handlerReturn) && handlerBody ops

/-- Between steps no display or tick handler is in service, and the edge handler is in service exactly while it has something
left to do (60_exceptions.md R289, R292; 44_sensor_bridge_host.md R267). -/
def State.handlersOk (s : State) : Bool :=
  !s.irq.insvc.disp && !s.irq.insvc.tick &&
  (if s.irq.insvc.edge then handlerBody s.ctx.edge.prog
   else decide (s.ctx.edge.prog = []) && !s.ctx.edge.awaiting)

/-! ### The engine and the BIU together, under the engine-priority schedule -/

/-- No status flag is set. -/
def Biu.noFlags (b : Biu) : Bool := !b.sb && !b.addr && !b.txe && !b.btf && !b.rxne

/-- The BIU between transactions: mode IDLE, bus unclaimed, nothing requested, buffered or flagged (40_bus_transaction_engine.md
R170). -/
def Biu.quiet (b : Biu) : Bool :=
  decide (b.mode = .idle) && !b.claim && !b.drf && !b.shf && !b.startreq && !b.stopreq && b.noFlags

/-- Quiet but for a start request. -/
def Biu.startAsked (b : Biu) : Bool :=
  decide (b.mode = .idle) && !b.claim && !b.drf && !b.shf && b.startreq && !b.stopreq && b.noFlags

/-- The start condition is on the bus and acknowledged. -/
def Biu.startSeen (b : Biu) : Bool :=
  decide (b.mode = .started) && b.claim && !b.drf && !b.shf && !b.startreq && !b.stopreq &&
  b.sb && !b.addr && !b.txe && !b.btf && !b.rxne

/-- The address byte is handed over and not yet sent. -/
def Biu.addressHeld (b : Biu) (v : Byte) : Bool :=
  decide (b.mode = .started) && b.claim && b.drf && decide (b.dr = v) && !b.shf && !b.startreq && !b.stopreq && b.noFlags

/-- The device has acknowledged its address. -/
def Biu.addressSeen (b : Biu) (m : Mode) : Bool :=
  decide (b.mode = m) && b.claim && !b.drf && !b.shf && !b.startreq && !b.stopreq &&
  !b.sb && b.addr && !b.txe && !b.btf && !b.rxne

/-- The device has not acknowledged (41_bus_interface_unit.md R194); `TXE` may be left over when no
byte was handed over after the refused one (R198). -/
def Biu.refused (b : Biu) : Bool :=
  decide (b.mode = .fail) && b.claim && !b.startreq && !b.stopreq && !b.sb && !b.addr && !b.btf && !b.rxne &&
  (!b.txe || !b.drf)

/-- A transmitter with no request but perhaps a start. -/
def Biu.transmits (b : Biu) : Bool :=
  decide (b.mode = .tx) && b.claim && !b.stopreq && !b.sb && !b.addr && !b.rxne

/-- A byte waits in `DR`. -/
def Biu.byteWaits (b : Biu) : Bool := b.transmits && !b.startreq && b.drf && !b.txe && !b.btf

/-- A byte is in `SH` and `DR` is free. -/
def Biu.byteShifts (b : Biu) : Bool := b.transmits && !b.startreq && !b.drf && b.shf && b.txe && !b.btf

/-- The data phase has just opened. -/
def Biu.dataOpen (b : Biu) : Bool := b.transmits && !b.startreq && !b.drf && !b.shf && b.txe && !b.btf

/-- The last byte has been clocked out. -/
def Biu.allSent (b : Biu) (startreq : Bool) : Bool :=
  b.transmits && decide (b.startreq = startreq) && !b.drf && !b.shf && b.txe && b.btf

/-- Byte `i` of `n` is being received: its acknowledge is already latched (41_bus_interface_unit.md R193). -/
def Biu.receiving (b : Biu) (i n : Nat) : Bool :=
  decide (b.mode = .rx) && b.claim && !b.drf && !b.shf && !b.startreq && b.noFlags && decide (b.ackl = decide (i + 1 < n))

/-- Byte `i` of `n` has been received: the next one is in flight, or the stop condition is on the bus. -/
def Biu.received (b : Biu) (i n : Nat) : Bool :=
  b.drf && !b.shf && !b.startreq && !b.sb && !b.addr && !b.txe && !b.btf && b.rxne &&
  decide (b.acken = decide (i + 2 < n)) &&
  (if i + 1 < n then
     decide (b.mode = .rx) && b.claim && decide (b.ackl = decide (i + 2 < n)) && decide (b.stopreq = decide (n ≤ i + 2))
   else decide (b.mode = .idle) && !b.claim && !b.stopreq)

/-- What the engine and the BIU are to each other at each value of `SEQ`, under the engine-priority schedule: the invariant behind
40_bus_transaction_engine.md R170 to R175 and 41_bus_interface_unit.md R198. -/
def protocolAt (e : Bte) (b : Biu) : Instr → Bool
  | .idle => b.quiet
  | .wStart => b.quiet && decide (0 < e.wlen.toNat) && decide (e.widx = 0#8) && decide (e.ridx = 0#8)
  | .wWaitSb => (b.startAsked || b.startSeen) && decide (0 < e.wlen.toNat) && decide (e.widx = 0#8) && decide (e.ridx = 0#8)
  | .wAddr => b.startSeen && decide (0 < e.wlen.toNat) && decide (e.widx = 0#8) && decide (e.ridx = 0#8)
  | .wWaitAddr =>
    (b.addressHeld (addressByte e.devaddr rwWrite) || b.addressSeen .addrTx || b.refused) &&
    decide (0 < e.wlen.toNat) && decide (e.widx = 0#8) && decide (e.ridx = 0#8)
  | .wClrAddr => b.addressSeen .addrTx && decide (0 < e.wlen.toNat) && decide (e.widx = 0#8) && decide (e.ridx = 0#8)
  | .wData => (b.byteShifts || (b.dataOpen && decide (e.widx = 0#8))) && decide (e.widx.toNat < e.wlen.toNat) && decide (e.ridx = 0#8)
  | .wWaitTxe =>
    (b.byteWaits || b.byteShifts || (b.refused && !b.txe)) && decide (e.widx.toNat < e.wlen.toNat) && decide (e.ridx = 0#8)
  | .wWaitBtf =>
    (b.byteWaits || b.byteShifts || b.allSent false || b.refused) &&
    decide (0 < e.wlen.toNat) && decide (e.widx = e.wlen) && decide (e.ridx = 0#8)
  | .wStop => b.allSent false && decide (0 < e.wlen.toNat) && decide (e.widx = e.wlen) && decide (e.ridx = 0#8) && decide (e.rlen = 0#8)
  | .rStart =>
    (if e.wlen = 0#8 then b.quiet else b.allSent false) && decide (e.widx = e.wlen) &&
    decide (0 < e.rlen.toNat) && decide (e.ridx = 0#8)
  | .rWaitSb =>
    ((if e.wlen = 0#8 then b.startAsked else b.allSent true) || b.startSeen) && decide (e.widx = e.wlen) &&
    decide (0 < e.rlen.toNat) && decide (e.ridx = 0#8)
  | .rAddr => b.startSeen && decide (0 < e.rlen.toNat) && decide (e.ridx = 0#8)
  | .rAckpol => b.addressHeld (addressByte e.devaddr rwRead) && decide (0 < e.rlen.toNat) && decide (e.ridx = 0#8)
  | .rWaitAddr =>
    (b.addressHeld (addressByte e.devaddr rwRead) || b.addressSeen .addrRx || b.refused) &&
    decide (0 < e.rlen.toNat) && decide (e.ridx = 0#8) && decide (b.acken = preArmedAck e.rlen)
  | .rClrAddr =>
    b.addressSeen .addrRx && decide (0 < e.rlen.toNat) && decide (e.ridx = 0#8) && decide (b.acken = preArmedAck e.rlen)
  | .rStage =>
    b.receiving e.ridx.toNat e.rlen.toNat && decide (e.ridx.toNat < e.rlen.toNat) &&
    decide (b.acken = decide (e.ridx.toNat + 1 < e.rlen.toNat)) &&
    decide (b.stopreq = (decide (0 < e.ridx.toNat) && decide (e.ridx.toNat + 1 = e.rlen.toNat)))
  | .rWaitRxne =>
    (b.received e.ridx.toNat e.rlen.toNat ||
      (b.receiving e.ridx.toNat e.rlen.toNat && decide (b.acken = decide (e.ridx.toNat + 2 < e.rlen.toNat)) &&
        decide (b.stopreq = decide (e.rlen.toNat ≤ e.ridx.toNat + 2)))) &&
    decide (e.ridx.toNat < e.rlen.toNat)
  | .rData => b.received e.ridx.toNat e.rlen.toNat && decide (e.ridx.toNat < e.rlen.toNat)
  | .done => b.quiet
  | .bteInit => false
  | .bteTransact _ _ _ => false
  | .bteWput _ _ => false
  | .bteRget _ => false
  | .drsInit => false
  | .drsPut _ _ => false
  | .stkInit => false
  | .stkTrigger => false
  | .evDispUpdate => false
  | .evDispCompare => false
  | .evTick => false
  | .evSensorEdge => false

/-- The engine and the BIU are in step with each other. -/
def State.protocolOk (s : State) : Bool :=
  match decodeSeq s.bte.seq with
  | .ok i => protocolAt s.bte s.biu i
  | .error _ => false

/-- The flag invariants of the reference BIU (41_bus_interface_unit.md R198). -/
def Biu.flagsOk (b : Biu) : Bool :=
  (!b.sb || (decide (b.mode = .started) && !b.drf)) &&
  (!b.addr || decide (b.mode = .addrTx) || decide (b.mode = .addrRx)) &&
  (!b.txe || ((decide (b.mode = .tx) || decide (b.mode = .fail)) && !b.drf)) &&
  (!b.btf || (decide (b.mode = .tx) && !b.drf && !b.shf)) &&
  decide (b.rxne = (b.drf && (decide (b.mode = .rx) || decide (b.mode = .rxHalt) || decide (b.mode = .idle)))) &&
  decide (b.claim = decide (b.mode ≠ .idle))

end Sys2Proof.Machine
end

