-- ==== Sys2Proof/Certificates/Slice0/Obligations.lean ====
section
/-! DEFINITION. The statements for the provers. Where one speaks of a slot of `FB` after a write it has the canonical form of `FB` as
a premise: that form holds after reset and is kept by every step (`MemoriesStayCanonical`, `ResetHasTheInvariants`). -/

section
open Sys2Proof Sys2Proof.Machine

/-! ### Encoding -/

/-- Words and codes written out from the spec's encoding tables (30_encoding.md R111 to R114, 95_test_vectors.md 2.1) decode to the
instructions they stand for. -/
def Obligations.WrittenWordsDecode : Prop :=
  decode (.word 0x01000000#32) = .ok .bteInit ∧
  decode (.word 0x02290201#32) = .ok (.bteTransact 0x29#7 2#8 1#8) ∧
  decode (.word 0x02500103#32) = .ok (.bteTransact 0x50#7 1#8 3#8) ∧
  decode (.word 0x0300FFAA#32) = .ok (.bteWput 255#8 0xAA#8) ∧
  decode (.word 0x04000300#32) = .ok (.bteRget 3#8) ∧
  decode (.word 0x110002BF#32) = .ok (.drsPut 2#8 0xBF#8) ∧
  decode (.word 0x21000000#32) = .ok .stkTrigger ∧
  decode (.word 0x81000000#32) = .ok .evDispCompare ∧
  decode (.seq 0x06#5) = .ok .wData ∧
  decode (.seq 0x10#5) = .ok .rStage

/-- Decoding the encoding of a well-formed instruction gives it back, with every operand at every value. -/
def Obligations.DecodeOfEncode : Prop :=
  ∀ i : Instr, i.wellFormed = true → decode (encode i) = .ok i

/-- What decodes to an instruction is that instruction's only encoding, and the instruction is well-formed: no bit of a word is
ignored. -/
def Obligations.EncodeOfDecode : Prop :=
  ∀ (c : Code) (i : Instr), decode c = .ok i → i.wellFormed = true ∧ encode i = c

/-- 30_encoding.md R112: a word is a command exactly when the bits under the mask equal the match value. -/
def Obligations.CommandTableDecides : Prop :=
  ∀ w : Word,
    (decodeCommand w = .ok .bteInit ↔ w &&& 0xFFFFFFFF#32 = 0x01000000#32) ∧
    ((∃ a m n, decodeCommand w = .ok (.bteTransact a m n)) ↔ w &&& 0xFF800000#32 = 0x02000000#32) ∧
    ((∃ i b, decodeCommand w = .ok (.bteWput i b)) ↔ w &&& 0xFFFF0000#32 = 0x03000000#32) ∧
    ((∃ i, decodeCommand w = .ok (.bteRget i)) ↔ w &&& 0xFFFF00FF#32 = 0x04000000#32) ∧
    (decodeCommand w = .ok .drsInit ↔ w &&& 0xFFFFFFFF#32 = 0x10000000#32) ∧
    ((∃ i b, decodeCommand w = .ok (.drsPut i b)) ↔ w &&& 0xFFFFFC00#32 = 0x11000000#32) ∧
    (decodeCommand w = .ok .stkInit ↔ w &&& 0xFFFFFFFF#32 = 0x20000000#32) ∧
    (decodeCommand w = .ok .stkTrigger ↔ w &&& 0xFFFFFFFF#32 = 0x21000000#32)

/-- 30_encoding.md R118: where each operand stands in the word, unsigned and unscaled; the operands of a transaction are what
the operand registers hold after it is accepted. -/
def Obligations.OperandsAreWordFields : Prop :=
  (∀ (w : Word) (a : BitVec 7) (m n : BitVec 8), decodeCommand w = .ok (.bteTransact a m n) →
    (a.toNat = w.toNat / 2 ^ 16 % 2 ^ 7 ∧ m.toNat = w.toNat / 2 ^ 8 % 2 ^ 8 ∧ n.toNat = w.toNat % 2 ^ 8) ∧
    ∀ s : State, s.bte.seq = 0x00#5 →
      ∃ t, exec (.bteTransact a m n) s = .next t ∧ t.bte.devaddr = a ∧ t.bte.wlen = m ∧ t.bte.rlen = n) ∧
  (∀ (w : Word) (i b : BitVec 8), decodeCommand w = .ok (.bteWput i b) →
    i.toNat = w.toNat / 2 ^ 8 % 2 ^ 8 ∧ b.toNat = w.toNat % 2 ^ 8) ∧
  (∀ (w : Word) (i b : BitVec 8), decodeCommand w = .ok (.drsPut i b) →
    i.toNat = w.toNat / 2 ^ 8 % 2 ^ 8 ∧ b.toNat = w.toNat % 2 ^ 8) ∧
  (∀ (w : Word) (i : BitVec 8), decodeCommand w = .ok (.bteRget i) → i.toNat = w.toNat / 2 ^ 8 % 2 ^ 8)

/-- 30_encoding.md R120, R121: a reserved word given to the command port changes no state of the block; it leaves its giver's list
(the model's choice of how the refusal by name shows, notes/assumptions/7.md). The twenty codes of `SEQ` are micro-operations; on a
reserved code, which no rule produces, the sequencer's turn faults by name (the model's choice, notes/assumptions/15.md). -/
def Obligations.ReservedEncodings : Prop :=
  (∀ (s : State) (g : Giver) (rest : List Turn) (w : Word) (ops : List HostOp) (why : DecodeRefusal),
    s.env.agenda = .host g :: rest → (s.context g).awaiting = false → (s.context g).prog = .command w :: ops →
    decodeCommand w = .error why →
    step s = .next { s with
      ctx := { s.ctx.set g { s.context g with prog := ops } with giver := g }, env := { s.env with agenda := rest } }) ∧
  (∀ c : BitVec 5, c.toNat ≤ 0x13 → ∃ i, decodeSeq c = .ok i ∧ i.kind = .micro ∧ encode i = .seq c) ∧
  (∀ (s : State) (rest : List Turn), s.env.agenda = .seq :: rest → 0x14 ≤ s.bte.seq.toNat →
    step s = .fault (.reservedSeq s.bte.seq))

/-! ### A step runs the decoded instruction -/

/-- The sequencer's turn runs the micro-operation whose code is in `SEQ`; a giver's turn runs the command whose word it gives, once
the port takes it, the word having left the giver's list; the dispatcher's turn runs the handler of the source it serves,
between handler entry and return (a tick that cannot be counted faults, see `TickCountsAndShows`); and an instruction placed by
`withFetchWord` after reset is the one the next step runs. -/
def Obligations.StepRunsDecodedInstruction : Prop :=
  (∀ (s : State) (rest : List Turn) (i : Instr), s.env.agenda = .seq :: rest → decode (.seq s.bte.seq) = .ok i →
    step s = exec i s.dropTurn) ∧
  (∀ (s : State) (g : Giver) (rest : List Turn) (w : Word) (ops : List HostOp) (i : Instr),
    s.env.agenda = .host g :: rest → (s.context g).awaiting = false → (s.context g).prog = .command w :: ops →
    decodeCommand w = .ok i → (i.kind = .bteCommand → s.bte.seq = 0x00#5) →
    step s = exec i (s.dropTurn.popOp g)) ∧
  (∀ (s : State) (src : Source) (picked : DispEvent) (rest : List Turn),
    s.env.agenda = .dispatch src picked :: rest → s.mostUrgent src → (src = .tick → s.canCount = true) →
    ∃ t, step s = .next t ∧ s.dropTurn.servedTo src picked t) ∧
  (∀ (w : Word) (i : Instr), decodeCommand w = .ok i →
    step (State.reset.withFetchWord 32 w.toNat) = exec i State.reset) ∧
  (∀ (c : BitVec 5) (i : Instr), decodeSeq c = .ok i →
    step (State.reset.withFetchWord 8 c.toNat) = exec i (State.reset.setSeq c))

/-! ### Bus transaction engine: commands -/

/-- 40_bus_transaction_engine.md R145: while `BUSY` = 1 a BTE command is held with its giver and changes nothing; DRS and STK
commands are taken at any time. -/
def Obligations.BusyHoldsBteCommands : Prop :=
  (∀ (s : State) (i : Instr), i.kind = .bteCommand → s.bte.seq ≠ 0x00#5 → exec i s = .next s) ∧
  (∀ (s : State) (g : Giver) (rest : List Turn) (w : Word) (ops : List HostOp) (i : Instr),
    s.env.agenda = .host g :: rest → (s.context g).awaiting = false → (s.context g).prog = .command w :: ops →
    decodeCommand w = .ok i →
    (i.kind = .bteCommand → s.bte.seq ≠ 0x00#5 → step s = .next { s with env := { s.env with agenda := rest } }) ∧
    (i.kind = .unitCommand → step s = exec i (s.dropTurn.popOp g)))

/-- 40_bus_transaction_engine.md R141: engine and BIU in their reset state, buffers, operand registers, `DR` and `SH` kept; held while
`BUSY` = 1. -/
def Obligations.BteInitResetsEngine : Prop :=
  ∀ s : State,
    (s.bte.seq = 0x00#5 → exec .bteInit s = .next { s with
      bte := { s.bte with seq := 0x00#5, widx := 0#8, ridx := 0#8 },
      biu := { mode := .idle, claim := false, dr := s.biu.dr, drf := false, sh := s.biu.sh, shf := false, ackl := false,
               acken := false, startreq := false, stopreq := false,
               sb := false, addr := false, txe := false, btf := false, rxne := false } }) ∧
    (s.bte.seq ≠ 0x00#5 → exec .bteInit s = .next s)

/-- 40_bus_transaction_engine.md R142: one entry is written, at any index; held while `BUSY` = 1. -/
def Obligations.BteWputStoresByte : Prop :=
  ∀ (s : State) (idx : BitVec 8) (byte : Byte),
    (s.bte.seq = 0x00#5 → ∃ t, exec (.bteWput idx byte) s = .next t ∧ t = { s with wbuf := t.wbuf } ∧
      t.readByte .wbuf idx.toNat = some byte ∧
      ∀ j : Nat, j ≠ idx.toNat → t.readByte .wbuf j = s.readByte .wbuf j) ∧
    (s.bte.seq ≠ 0x00#5 → exec (.bteWput idx byte) s = .next s)

/-- 40_bus_transaction_engine.md R143: the answer is the entry; the same command given again answers the same. The giver's own copy
of the answer (`resp`) is the model's field (notes/assumptions/10.md). -/
def Obligations.BteRgetAnswersByte : Prop :=
  ∀ (s : State) (idx : BitVec 8) (v : Byte), s.bte.seq = 0x00#5 → s.readByte .rbuf idx.toNat = some v →
    ∃ t, exec (.bteRget idx) s = .next t ∧ exec (.bteRget idx) t = .next t ∧
      t = { s with rsp := v, ctx := s.ctx.set s.ctx.giver { s.ctx.get s.ctx.giver with resp := v } }

/-- 40_bus_transaction_engine.md R144: operands latched, indices zeroed, `SEQ` at the first micro-operation, the giver held; held
itself while `BUSY` = 1; and a giver whose transaction has not retired takes no step. -/
def Obligations.BteTransactBegins : Prop :=
  (∀ (s : State) (addr : BitVec 7) (m n : BitVec 8),
    (s.bte.seq = 0x00#5 → exec (.bteTransact addr m n) s = .next { s with
      bte := { seq := if m ≠ 0#8 then 0x01#5 else if n ≠ 0#8 then 0x0A#5 else 0x13#5,
               devaddr := addr, wlen := m, rlen := n, widx := 0#8, ridx := 0#8 },
      ctx := s.ctx.set s.ctx.giver { s.ctx.get s.ctx.giver with awaiting := true } }) ∧
    (s.bte.seq ≠ 0x00#5 → exec (.bteTransact addr m n) s = .next s)) ∧
  (∀ (s : State) (g : Giver) (rest : List Turn), s.env.agenda = .host g :: rest → (s.context g).awaiting = true →
    step s = .next { s with env := { s.env with agenda := rest } })

/-! ### The sequencer -/

/-- 40_bus_transaction_engine.md R151, R160, R163, 41_bus_interface_unit.md R182, R184: a start condition is asked for; the
acknowledge policy is 0 for a single byte and 1 otherwise, and the latched decision `ACKL` keeps its value; nothing else changes. -/
def Obligations.RequestsSetOneBit : Prop :=
  ∀ s : State,
    exec .wStart s = .next { s with bte := { s.bte with seq := 0x02#5 }, biu := { s.biu with startreq := true } } ∧
    exec .rStart s = .next { s with bte := { s.bte with seq := 0x0B#5 }, biu := { s.biu with startreq := true } } ∧
    exec .rAckpol s = .next { s with
      bte := { s.bte with seq := 0x0E#5 }, biu := { s.biu with acken := if s.bte.rlen = 1#8 then false else true } }

/-- 40_bus_transaction_engine.md R146, R150, R152, R154, R157, R158, R161, R164, R167, 00_scope.md R12: a wait whose flag is 1 only
writes its successor; a wait whose flag is 0, and `IDLE`, change nothing at all, nor does the sequencer's turn that finds it; an
action always has an enabled step; the sequencer's step is the micro-operation whose code is in `SEQ`. -/
def Obligations.WaitsFollowTheirFlags : Prop :=
  (∀ s : State,
    exec .idle s = .next s ∧
    exec .wWaitSb s = .next (if s.biu.sb then { s with bte := { s.bte with seq := 0x03#5 } } else s) ∧
    exec .wWaitAddr s = .next (if s.biu.addr then { s with bte := { s.bte with seq := 0x05#5 } } else s) ∧
    exec .wWaitTxe s = .next (if s.biu.txe then { s with bte := { s.bte with seq := 0x06#5 } } else s) ∧
    exec .wWaitBtf s = .next (if s.biu.btf then
      { s with bte := { s.bte with seq := if s.bte.rlen = 0#8 then 0x09#5 else 0x0A#5 } } else s) ∧
    exec .rWaitSb s = .next (if s.biu.sb then { s with bte := { s.bte with seq := 0x0C#5 } } else s) ∧
    exec .rWaitAddr s = .next (if s.biu.addr then { s with bte := { s.bte with seq := 0x0F#5 } } else s) ∧
    exec .rWaitRxne s = .next (if s.biu.rxne then { s with bte := { s.bte with seq := 0x12#5 } } else s)) ∧
  (∀ b : Biu,
    seqReady 0x00#5 b = false ∧ seqReady 0x02#5 b = b.sb ∧ seqReady 0x04#5 b = b.addr ∧ seqReady 0x07#5 b = b.txe ∧
    seqReady 0x08#5 b = b.btf ∧ seqReady 0x0B#5 b = b.sb ∧ seqReady 0x0E#5 b = b.addr ∧ seqReady 0x11#5 b = b.rxne ∧
    ∀ c : BitVec 5, c ∈ [0x01#5, 0x03#5, 0x05#5, 0x06#5, 0x09#5, 0x0A#5, 0x0C#5, 0x0D#5, 0x0F#5, 0x10#5, 0x12#5, 0x13#5] →
      seqReady c b = true) ∧
  (∀ (s : State) (rest : List Turn) (i : Instr), s.env.agenda = .seq :: rest → decodeSeq s.bte.seq = .ok i →
    step s = exec i { s with env := { s.env with agenda := rest } }) ∧
  (∀ (s : State) (rest : List Turn), s.env.agenda = .seq :: rest → seqReady s.bte.seq s.biu = false →
    step s = .next { s with env := { s.env with agenda := rest } })

/-- 40_bus_transaction_engine.md R153, R162, 41_bus_interface_unit.md R185: the address byte `{DEVADDR, rw}` is handed over with
`RW_WRITE` = 0, `RW_READ` = 1. With `DRF` = 1 see `UnspecifiedBytesStopNothing`. -/
def Obligations.AddressBytesHandedOver : Prop :=
  ∀ s : State, s.biu.drf = false →
    exec .wAddr s = .next { s with
      bte := { s.bte with seq := 0x04#5 },
      biu := { s.biu with dr := s.bte.devaddr ++ 0#1, drf := true, txe := false, btf := false,
                          sb := if s.biu.mode = .started then false else s.biu.sb } } ∧
    exec .rAddr s = .next { s with
      bte := { s.bte with seq := 0x0D#5 },
      biu := { s.biu with dr := s.bte.devaddr ++ 1#1, drf := true, txe := false, btf := false,
                          sb := if s.biu.mode = .started then false else s.biu.sb } }

/-- 40_bus_transaction_engine.md R155, R165, 41_bus_interface_unit.md R187: the status read clears `ADDR`; the BIU becomes a
transmitter with `TXE` = 1, or a receiver with the decision for byte 0 latched; in any other mode only `ADDR` changes. -/
def Obligations.AddressConsumed : Prop :=
  ∀ (s : State) (b : Biu),
    b = (if s.biu.mode = .addrTx then { s.biu with addr := false, mode := .tx, txe := true }
         else if s.biu.mode = .addrRx then { s.biu with addr := false, mode := .rx, ackl := s.biu.acken }
         else { s.biu with addr := false }) →
    exec .wClrAddr s = .next { s with bte := { s.bte with seq := 0x06#5 }, biu := b } ∧
    exec .rClrAddr s = .next { s with bte := { s.bte with seq := 0x10#5 }, biu := b }

/-- 40_bus_transaction_engine.md R156: `WBUF[WIDX]` is handed over and `WIDX` counts it; the successor depends on the count after
it. With `DRF` = 1, or an entry never written, see `UnspecifiedBytesStopNothing`. -/
def Obligations.WriteByteHandedOver : Prop :=
  ∀ (s : State) (b : Byte), s.biu.drf = false → s.readByte .wbuf s.bte.widx.toNat = some b →
    exec .wData s = .next { s with
      bte := { s.bte with
        widx := s.bte.widx + 1#8,
        seq := if (s.bte.widx + 1#8).toNat < s.bte.wlen.toNat then 0x07#5 else 0x08#5 },
      biu := { s.biu with dr := b, drf := true, txe := false, btf := false,
                          sb := if s.biu.mode = .started then false else s.biu.sb } }

/-- 40_bus_transaction_engine.md R159, 41_bus_interface_unit.md R183, R188: the stop is requested, and carried out in the same step
when the transmitter is drained or the receiver has halted. -/
def Obligations.StopIsEager : Prop :=
  ∀ s : State,
    (s.biu.stopCanGo → exec .wStop s = .next { s with
      bte := { s.bte with seq := 0x13#5 },
      biu := { s.biu with mode := .idle, claim := false, stopreq := false, txe := false, btf := false },
      wire := s.wire ++ [.stop] }) ∧
    (¬ s.biu.stopCanGo → exec .wStop s = .next { s with
      bte := { s.bte with seq := 0x13#5 }, biu := { s.biu with stopreq := true } })

/-- 40_bus_transaction_engine.md R166: at index n − 2 for n ≥ 2 and at index 0 for n = 1 the policy is cleared and the stop
requested (and carried out at once if it can be, 41_bus_interface_unit.md R183); in every other iteration nothing but `SEQ`
changes. -/
def Obligations.EndIsStagedOneByteEarly : Prop :=
  ∀ s : State,
    (¬ s.bte.stages → exec .rStage s = .next { s with bte := { s.bte with seq := 0x11#5 } }) ∧
    (s.bte.stages → ¬ s.biu.stopCanGo → exec .rStage s = .next { s with
      bte := { s.bte with seq := 0x11#5 }, biu := { s.biu with acken := false, stopreq := true } }) ∧
    (s.bte.stages → s.biu.stopCanGo → exec .rStage s = .next { s with
      bte := { s.bte with seq := 0x11#5 },
      biu := { s.biu with acken := false, mode := .idle, claim := false, stopreq := false, txe := false, btf := false },
      wire := s.wire ++ [.stop] })

/-- 40_bus_transaction_engine.md R168, 41_bus_interface_unit.md R186: the received byte goes to `RBUF[RIDX]` and `RIDX` counts it.
With `RXNE` = 0 see `UnspecifiedBytesStopNothing`. -/
def Obligations.ReadByteCopiedOut : Prop :=
  ∀ s : State, s.biu.rxne = true →
    ∃ t, exec .rData s = .next t ∧
      t = { s with
        bte := { s.bte with
          ridx := s.bte.ridx + 1#8,
          seq := if (s.bte.ridx + 1#8).toNat < s.bte.rlen.toNat then 0x10#5 else 0x13#5 },
        biu := { s.biu with drf := false, rxne := false, btf := false },
        rbuf := t.rbuf } ∧
      t.readByte .rbuf s.bte.ridx.toNat = some s.biu.dr ∧
      ∀ j : Nat, j ≠ s.bte.ridx.toNat → t.readByte .rbuf j = s.readByte .rbuf j

/-- 93_implementation_defined.md U3, U4: where the spec leaves a byte open the machine goes on, everything else happens as the rule
says, and the byte is a free value; the statement holds for every value of it (the model's choice, notes/assumptions/3.md and
4.md). -/
def Obligations.UnspecifiedBytesStopNothing : Prop :=
  (∀ s : State, s.biu.drf = true → ∃ v : Byte,
    exec .wAddr s = .next { s with
      bte := { s.bte with seq := 0x04#5 },
      biu := { s.biu with dr := v, drf := true, txe := false, btf := false,
                          sb := if s.biu.mode = .started then false else s.biu.sb },
      env := { s.env with freeIx := s.env.freeIx + 1 } }) ∧
  (∀ s : State, s.biu.drf = true → ∃ v : Byte,
    exec .rAddr s = .next { s with
      bte := { s.bte with seq := 0x0D#5 },
      biu := { s.biu with dr := v, drf := true, txe := false, btf := false,
                          sb := if s.biu.mode = .started then false else s.biu.sb },
      env := { s.env with freeIx := s.env.freeIx + 1 } }) ∧
  (∀ s : State, ∃ (v : Byte) (k : Nat),
    exec .wData s = .next { s with
      bte := { s.bte with
        widx := s.bte.widx + 1#8,
        seq := if (s.bte.widx + 1#8).toNat < s.bte.wlen.toNat then 0x07#5 else 0x08#5 },
      biu := { s.biu with dr := v, drf := true, txe := false, btf := false,
                          sb := if s.biu.mode = .started then false else s.biu.sb },
      env := { s.env with freeIx := k } } ∧ (s.biu.drf = false → k = s.env.freeIx)) ∧
  (∀ s : State, s.biu.rxne = false → ∃ t, exec .rData s = .next t ∧
    t = { s with
      bte := { s.bte with
        ridx := s.bte.ridx + 1#8,
        seq := if (s.bte.ridx + 1#8).toNat < s.bte.rlen.toNat then 0x10#5 else 0x13#5 },
      biu := { s.biu with drf := false, btf := false },
      env := { s.env with freeIx := s.env.freeIx + 1 },
      rbuf := t.rbuf } ∧
    (∃ v : Byte, t.readByte .rbuf s.bte.ridx.toNat = some v) ∧
    ∀ j : Nat, j ≠ s.bte.ridx.toNat → t.readByte .rbuf j = s.readByte .rbuf j) ∧
  (∀ (s : State) (idx : BitVec 8), s.bte.seq = 0x00#5 → ∃ v : Byte,
    exec (.bteRget idx) s = .next { s with
      rsp := v, ctx := s.ctx.set s.ctx.giver { s.ctx.get s.ctx.giver with resp := v } })

/-- 40_bus_transaction_engine.md R169: `SEQ` returns to `IDLE` and the giver is released; every register and buffer keeps its
value. -/
def Obligations.DoneRetires : Prop :=
  ∀ s : State,
    exec .done s = .next { s with
      bte := { s.bte with seq := 0x00#5 },
      ctx := { s.ctx with main := { s.ctx.main with awaiting := false }, edge := { s.ctx.edge with awaiting := false } } }

/-- 40_bus_transaction_engine.md R171: a micro-operation leaves `SEQ`, and everything else, alone in `IDLE` and in a wait whose flag
is 0; else it writes the successor the table gives, the condition evaluated after its own writes; so does an accepted
`BTE_TRANSACT`. -/
def Obligations.SuccessorTable : Prop :=
  (∀ (s t : State) (i : Instr), decode (.seq s.bte.seq) = .ok i → exec i s = .next t →
    (seqReady s.bte.seq s.biu = false → t = s) ∧
    (seqReady s.bte.seq s.biu = true → seqSuccessor t.bte i = some t.bte.seq ∧ t.bte.seq ≠ s.bte.seq)) ∧
  (∀ (s t : State) (addr : BitVec 7) (m n : BitVec 8), s.bte.seq = 0x00#5 → exec (.bteTransact addr m n) s = .next t →
    seqSuccessor t.bte (.bteTransact addr m n) = some t.bte.seq ∧ t.bte.seq ≠ 0x00#5)

/-! ### The bus interface unit -/

/-- 41_bus_interface_unit.md R189: the start condition, `Sr` on a claimed bus and `S` otherwise. -/
def Obligations.StartConditionSent : Prop :=
  ∀ (s : State) (rest : List Turn),
    s.env.agenda = .biu :: rest → (s.par.sched = .free ∨ seqReady s.bte.seq s.biu = false) →
    s.biu.startreq = true → s.biu.stopreq = false →
    (s.biu.mode = .idle ∨ (s.biu.mode = .tx ∧ s.biu.shf = false ∧ s.biu.drf = false) ∨ s.biu.mode = .rxHalt) →
    step s = .next { s with
      biu := { s.biu with claim := true, startreq := false, sb := true, txe := false, btf := false, mode := .started },
      wire := s.wire ++ [if s.biu.claim then .restart else .start],
      env := { s.env with agenda := rest } }

/-- 41_bus_interface_unit.md R190: the address byte and the device's answer; direction from bit 0; no acknowledge enters FAIL. The
answer is the next one listed, or a free value when none is (notes/assumptions/2.md). -/
def Obligations.AddressByteSent : Prop :=
  ∀ (s : State) (rest : List Turn),
    s.env.agenda = .biu :: rest → (s.par.sched = .free ∨ seqReady s.bte.seq s.biu = false) →
    s.biu.mode = .started → s.biu.drf = true →
    ∃ (a : Bool) (e : Env),
      (s.env.acks = a :: e.acks ∧ e = { s.env with agenda := rest, acks := e.acks } ∨
       s.env.acks = [] ∧ e = { s.env with agenda := rest, freeIx := s.env.freeIx + 1 }) ∧
      step s = .next { s with
        biu := if a then { s.biu with drf := false, addr := true,
                                      mode := if s.biu.dr.getLsbD 0 then .addrRx else .addrTx }
               else { s.biu with drf := false, mode := .fail },
        wire := s.wire ++ [.address s.biu.dr, if a then .deviceAck else .deviceNack],
        env := e }

/-- 41_bus_interface_unit.md R191, R192: a byte goes from `DR` to `SH`, and from `SH` to the bus; `BTF` is set when nothing more
waits in `DR`; no acknowledge enters FAIL. -/
def Obligations.WriteByteSent : Prop :=
  ∀ (s : State) (rest : List Turn),
    s.env.agenda = .biu :: rest → (s.par.sched = .free ∨ seqReady s.bte.seq s.biu = false) → s.biu.mode = .tx →
    (s.biu.drf = true → s.biu.shf = false →
      step s = .next { s with
        biu := { s.biu with sh := s.biu.dr, shf := true, drf := false, txe := true },
        env := { s.env with agenda := rest } }) ∧
    (s.biu.shf = true →
      ∃ (a : Bool) (e : Env),
        (s.env.acks = a :: e.acks ∧ e = { s.env with agenda := rest, acks := e.acks } ∨
         s.env.acks = [] ∧ e = { s.env with agenda := rest, freeIx := s.env.freeIx + 1 }) ∧
        step s = .next { s with
          biu := if a then { s.biu with shf := false, btf := if s.biu.drf then s.biu.btf else true }
                 else { s.biu with shf := false, mode := .fail },
          wire := s.wire ++ [.dataOut s.biu.sh, if a then .deviceAck else .deviceNack],
          env := e })

/-- 41_bus_interface_unit.md R193: the byte is answered as latched when it started; the next decision is latched from the policy as
it stands; after a no-acknowledge the receiver halts and a pending stop is carried out in the same step. -/
def Obligations.ReadByteTaken : Prop :=
  ∀ (s : State) (rest : List Turn),
    s.env.agenda = .biu :: rest → (s.par.sched = .free ∨ seqReady s.bte.seq s.biu = false) →
    s.biu.mode = .rx → s.biu.drf = false →
    ∃ (d : Byte) (e : Env),
      (s.env.bytes = d :: e.bytes ∧ e = { s.env with agenda := rest, bytes := e.bytes } ∨
       s.env.bytes = [] ∧ e = { s.env with agenda := rest, freeIx := s.env.freeIx + 1 }) ∧
      (s.biu.ackl = true → step s = .next { s with
        biu := { s.biu with dr := d, drf := true, rxne := true, ackl := s.biu.acken },
        wire := s.wire ++ [.dataIn d, .masterAck], env := e }) ∧
      (s.biu.ackl = false → s.biu.stopreq = false → step s = .next { s with
        biu := { s.biu with dr := d, drf := true, rxne := true, mode := .rxHalt },
        wire := s.wire ++ [.dataIn d, .masterNack], env := e }) ∧
      (s.biu.ackl = false → s.biu.stopreq = true → step s = .next { s with
        biu := { s.biu with dr := d, drf := true, rxne := true, mode := .idle, claim := false, stopreq := false,
                            txe := false, btf := false },
        wire := s.wire ++ [.dataIn d, .masterNack, .stop], env := e })

/-- 41_bus_interface_unit.md R195, R196: at most one move is enabled; under the engine-priority schedule a turn of the BIU that
finds the sequencer ready changes nothing, and so does one that finds no move enabled. -/
def Obligations.BiuMovesOnlyWhenItMay : Prop :=
  (∀ (b : Biu) (m k : Move), b.enabled m = true → b.enabled k = true → m = k) ∧
  (∀ (s : State) (rest : List Turn), s.env.agenda = .biu :: rest →
    ((s.par.sched = .enginePriority ∧ seqReady s.bte.seq s.biu = true) ∨ ∀ m : Move, s.biu.enabled m = false) →
    step s = .next { s with env := { s.env with agenda := rest } })

/-- 41_bus_interface_unit.md R194, 60_exceptions.md R283: in FAIL no move is enabled; once the engine waits and neither it nor the BIU
has an enabled step, no step but reset changes engine, bus or wire, and a giver that awaits the transaction awaits it for ever. -/
def Obligations.HangIsForEver : Prop :=
  (∀ (b : Biu) (m : Move), b.mode = .fail → b.enabled m = false) ∧
  (∀ s : State, s.hangs = true → s.turnNow ≠ .reset →
    (s.canCount = true → ∃ t, step s = .next t) ∧
    ∀ t : State, step s = .next t →
      t.bte = s.bte ∧ t.biu = s.biu ∧ t.wire = s.wire ∧ t.hangs = true ∧
      ∀ g : Giver, (s.context g).awaiting = true → (t.context g).awaiting = true)

/-! ### Whole transactions -/

/-- 40_bus_transaction_engine.md R170, 30_encoding.md R128, 20_memory.md R81: with a device that acknowledges everything, a
transaction given to the idle machine under the engine-priority order ends, puts exactly its symbols on the wire, fills `RBUF[0..n)`
with the bytes read, in order, and leaves engine and BIU idle. That engine and BIU take the turns when none is listed is the model's
quiet order (notes/assumptions/1.md). -/
def Obligations.WholeTransaction : Prop :=
  ∀ (s : State) (addr : BitVec 7) (m n : BitVec 8) (reads laterBytes : List Byte) (laterAcks : List Bool),
    s.bte.seq = 0x00#5 → s.biu.quiet = true → s.env.agenda = [] → ¬ (m = 0#8 ∧ n = 0#8) →
    s.env.acks = List.replicate (acksAsked m.toNat n.toNat) true ++ laterAcks →
    s.env.bytes = reads ++ laterBytes → reads.length = n.toNat →
    ∃ (t₀ t : State) (k : Nat),
      exec (.bteTransact addr m n) s = .next t₀ ∧ Sys2Proof.core.run k t₀ = .next t ∧
      t.wire = s.wire ++ transactionSymbols addr (s.writeBytes m.toNat) reads ∧
      (∀ i : Nat, i < n.toNat → t.readByte .rbuf i = reads[i]?) ∧
      (∀ i : Nat, n.toNat ≤ i → t.readByte .rbuf i = s.readByte .rbuf i) ∧
      t.bte = { seq := 0x00#5, devaddr := addr, wlen := m, rlen := n, widx := m, ridx := n } ∧
      t.biu.quiet = true ∧ t.biu.acken = (if n = 0#8 then s.biu.acken else false) ∧
      t.wbuf = s.wbuf ∧ t.fb = s.fb ∧ t.drs = s.drs ∧ t.stk = s.stk ∧ t.irq = s.irq ∧ t.rsp = s.rsp ∧
      t.env = { s.env with acks := laterAcks, bytes := laterBytes }

/-- 40_bus_transaction_engine.md R173: the read phase is entered only when bytes are to be read, and a running transaction that
reads none writes no acknowledge policy. -/
def Obligations.WriteOnlyNeverReads : Prop :=
  ∀ s t : State, s.readsAskedFor = true → step s = .next t →
    t.readsAskedFor = true ∧
    (s.bte.seq ≠ 0x00#5 → s.bte.rlen = 0#8 → s.turnNow ≠ .reset → t.biu.acken = s.biu.acken)

/-! ### Display -/

/-- 42_display_refresh.md R211. -/
def Obligations.DrsInitBlanksDisplay : Prop :=
  ∀ s : State, Memory.wf .fb s.fb = true →
    ∃ t, exec .drsInit s = .next t ∧
      t = { s with
        drs := { s.drs with an := 0xF#4, ca := 0xFF#8, digitIdx := 0#2, uif := false, ccif := false, den := true },
        fb := t.fb } ∧
      ∀ k : Nat, t.readByte .fb k = if k < 4 then some 0x00#8 else s.readByte .fb k

/-- 42_display_refresh.md R212, 20_memory.md R87: one slot is written and neither `AN` nor `CA` changes; an index that names no
slot, which no command word carries, changes nothing. -/
def Obligations.DrsPutStoresSlot : Prop :=
  (∀ (s : State) (idx : BitVec 8) (byte : Byte), Memory.wf .fb s.fb = true → idx.toNat ≤ 3 →
    ∃ t, exec (.drsPut idx byte) s = .next t ∧ t = { s with fb := t.fb } ∧
      t.readByte .fb idx.toNat = some byte ∧
      ∀ k : Nat, k ≠ idx.toNat → t.readByte .fb k = s.readByte .fb k) ∧
  (∀ (s : State) (idx : BitVec 8) (byte : Byte), 4 ≤ idx.toNat → exec (.drsPut idx byte) s = .next s)

/-- 42_display_refresh.md R214, R215: the update handler drives low the anode of the current digit and each cathode whose bit is set
in its slot, drives no line high, advances the index and changes nothing else; the compare handler drives every line high. -/
def Obligations.DisplayHandlersDriveLines : Prop :=
  (∀ (s : State) (b : Byte), s.readByte .fb s.drs.digitIdx.toNat = some b →
    ∃ t, exec .evDispUpdate s = .next t ∧
      t = { s with drs := { s.drs with uif := false, an := t.drs.an, ca := t.drs.ca, digitIdx := s.drs.digitIdx + 1#2 } } ∧
      (∀ j : Nat, t.drs.an.getLsbD j = (s.drs.an.getLsbD j && decide (j ≠ s.drs.digitIdx.toNat))) ∧
      (∀ i : Nat, t.drs.ca.getLsbD i = (s.drs.ca.getLsbD i && !b.getLsbD i))) ∧
  (∀ s : State,
    exec .evDispCompare s = .next { s with drs := { s.drs with ccif := false, an := 0xF#4, ca := 0xFF#8 } })

/-- 42_display_refresh.md R218, 10_state.md R36: from dark outputs the update handler lights exactly the pattern of the current slot
on exactly the current digit. -/
def Obligations.UpdateLightsOneDigit : Prop :=
  ∀ (s : State) (b : Byte), s.drs.an = 0xF#4 → s.drs.ca = 0xFF#8 → s.readByte .fb s.drs.digitIdx.toNat = some b →
    ∃ t, exec .evDispUpdate s = .next t ∧ t.drs.ca = ~~~b ∧
      t.drs.an = (match s.drs.digitIdx.toNat with | 0 => 0xE#4 | 1 => 0xD#4 | 2 => 0xB#4 | _ => 0x7#4) ∧
      ∀ k i : Nat, k < 4 → i < 8 → (t.lit k i = true ↔ k = s.drs.digitIdx.toNat ∧ b.getLsbD i = true)

/-- 42_display_refresh.md R217: served alternately from dark outputs, the n-th update event lights digit d + n mod 4 alone, having
started with every output inactive, and the compare event after it darkens the display again. -/
def Obligations.RoundRobin : Prop :=
  ∀ (s : State) (n : Nat), s.drs.an = 0xF#4 → s.drs.ca = 0xFF#8 →
    ∃ t u : State,
      execAll (List.flatten (List.replicate n [Instr.evDispUpdate, Instr.evDispCompare])) s = .next t ∧
      t.drs.an = 0xF#4 ∧ t.drs.ca = 0xFF#8 ∧ t.drs.digitIdx.toNat = (s.drs.digitIdx.toNat + n) % 4 ∧
      exec .evDispUpdate t = .next u ∧ u.fb = s.fb ∧
      ∀ k : Nat, k < 4 → (u.drs.an.getLsbD k = false ↔ k = (s.drs.digitIdx.toNat + n) % 4)

/-! ### Stopwatch -/

/-- 43_stopwatch_tick.md R231. -/
def Obligations.StkInitResetsStopwatch : Prop :=
  ∀ s : State, Memory.wf .fb s.fb = true →
    ∃ t, exec .stkInit s = .next t ∧
      t = { s with
        drs := { s.drs with an := 0xF#4, ca := 0xFF#8, digitIdx := 0#2, uif := false, ccif := false, den := true },
        stk := { swState := .idle, counter := 0#32, ten := false, tif := false },
        fb := t.fb } ∧
      t.showsCount 0 ∧ ∀ k : Nat, 4 ≤ k → t.readByte .fb k = s.readByte .fb k

/-- 43_stopwatch_tick.md R232, R233: the three transitions, and what each leaves alone. -/
def Obligations.TriggerTransitions : Prop :=
  ∀ s : State,
    (s.stk.swState = .idle →
      exec .stkTrigger s = .next { s with stk := { s.stk with ten := true, swState := .running } }) ∧
    (s.stk.swState = .running →
      exec .stkTrigger s = .next { s with stk := { s.stk with ten := false, tif := false, swState := .stopped } }) ∧
    (s.stk.swState = .stopped → Memory.wf .fb s.fb = true →
      ∃ t, exec .stkTrigger s = .next t ∧
        t = { s with stk := { s.stk with counter := 0#32, ten := false, swState := .idle }, fb := t.fb } ∧
        t.showsCount 0 ∧ ∀ k : Nat, 4 ≤ k → t.readByte .fb k = s.readByte .fb k)

/-- 43_stopwatch_tick.md R234 to R237, R240: the tick handler counts, whatever `SW_STATE` is, and shows the new count: four decimal
digits, leading zeros of the first two blank, a point after the third. At 2^32 − 1 it faults by name, in `exec` and in the
dispatcher's step, or wraps to 0 as the hardware does; that a parameter chooses between these two halves of R240 is the model's
choice (notes/assumptions/6.md). -/
def Obligations.TickCountsAndShows : Prop :=
  (∀ s : State, Memory.wf .fb s.fb = true → s.stk.counter.toNat + 1 < 2 ^ 32 ∨ s.par.overflow = .wraps →
    ∃ t, exec .evTick s = .next t ∧
      t = { s with stk := { s.stk with tif := false, counter := BitVec.ofNat 32 (s.stk.counter.toNat + 1) }, fb := t.fb } ∧
      t.showsCount ((s.stk.counter.toNat + 1) % 2 ^ 32) ∧ ∀ k : Nat, 4 ≤ k → t.readByte .fb k = s.readByte .fb k) ∧
  (∀ s : State, s.par.overflow = .faults → s.stk.counter.toNat = 2 ^ 32 - 1 →
    exec .evTick s = .fault .counterOverflow ∧
    ∀ (picked : DispEvent) (rest : List Turn), s.env.agenda = .dispatch .tick picked :: rest → s.mostUrgent .tick →
      step s = .fault .counterOverflow)

/-- 43_stopwatch_tick.md R242: after N triggers from IDLE the state's code is N mod 3 and the tick timer is enabled exactly in
RUNNING. -/
def Obligations.TriggerCycle : Prop :=
  ∀ (s : State) (n : Nat), s.stk.swState = .idle → s.stk.ten = false →
    ∃ t, execAll (List.replicate n Instr.stkTrigger) s = .next t ∧
      t.stk.swState.code.toNat = n % 3 ∧ (t.stk.ten = true ↔ t.stk.swState = .running)

/-- 43_stopwatch_tick.md R239 (e): where the slots show the counter they show it after every instruction but `DRS_PUT` and
`DRS_INIT`, which write `FB` otherwise. -/
def Obligations.SlotsKeepShowingCounter : Prop :=
  ∀ (i : Instr) (s t : State), Memory.wf .fb s.fb = true → s.showsCount s.stk.counter.toNat →
    i ≠ .drsInit → (∀ idx byte, i ≠ .drsPut idx byte) → exec i s = .next t →
    t.showsCount t.stk.counter.toNat

/-! ### Events, the dispatcher, the host -/

/-- 42_display_refresh.md R216, 43_stopwatch_tick.md R241, 60_exceptions.md R286, 10_state.md R54, 30_encoding.md R113: what raises
each flag; a flag already 1 stays 1, so a second event is lost. Which display event comes first is the turn's own
(notes/assumptions/14.md); an injected event word sets its flag whatever `DEN` and `TEN` are, and any other word changes nothing
(notes/assumptions/13.md). -/
def Obligations.EventsRaiseTheirFlags : Prop :=
  ∀ (s : State) (rest : List Turn),
    (∀ first : DispEvent, s.env.agenda = .dispTimer first :: rest →
      (s.drs.den = false → step s = .next { s with env := { s.env with agenda := rest } }) ∧
      (s.drs.den = true → (s.drs.nextRaise = some .update ∨ s.drs.nextRaise = none ∧ first = .update) →
        step s = .next { s with
          drs := { s.drs with uif := true, nextRaise := some .compare }, env := { s.env with agenda := rest } }) ∧
      (s.drs.den = true → (s.drs.nextRaise = some .compare ∨ s.drs.nextRaise = none ∧ first = .compare) →
        step s = .next { s with
          drs := { s.drs with ccif := true, nextRaise := some .update }, env := { s.env with agenda := rest } })) ∧
    (s.env.agenda = .tickTimer :: rest →
      step s = .next { s with
        stk := { s.stk with tif := s.stk.tif || s.stk.ten }, env := { s.env with agenda := rest } }) ∧
    (s.env.agenda = .sensorEdge :: rest →
      step s = .next { s with irq := { s.irq with eif := true }, env := { s.env with agenda := rest } }) ∧
    (∀ src : Source, s.env.agenda = .enableLine src :: rest →
      ∃ t, step s = .next t ∧ t = { s with irq := { s.irq with ie := t.irq.ie }, env := { s.env with agenda := rest } } ∧
        ∀ other : Source, t.irq.ie.get other = (s.irq.ie.get other || decide (other = src))) ∧
    (∀ w : Word, s.env.agenda = .inject w :: rest →
      (w = 0x80000000#32 →
        step s = .next { s with drs := { s.drs with uif := true }, env := { s.env with agenda := rest } }) ∧
      (w = 0x81000000#32 →
        step s = .next { s with drs := { s.drs with ccif := true }, env := { s.env with agenda := rest } }) ∧
      (w = 0x82000000#32 →
        step s = .next { s with stk := { s.stk with tif := true }, env := { s.env with agenda := rest } }) ∧
      (w = 0x83000000#32 →
        step s = .next { s with irq := { s.irq with eif := true }, env := { s.env with agenda := rest } }) ∧
      (w ∉ [0x80000000#32, 0x81000000#32, 0x82000000#32, 0x83000000#32] →
        step s = .next { s with env := { s.env with agenda := rest } }))

/-- 60_exceptions.md R289, R290: the dispatcher serves an eligible source of least `PRIO` (among several, the turn picks), runs its
handler between `INSVC` raised and lowered, and has no step when no source is eligible. A tick that cannot be counted faults, see
`TickCountsAndShows`. -/
def Obligations.DispatcherServesMostUrgent : Prop :=
  ∀ (s : State) (tie : Source) (picked : DispEvent) (rest : List Turn), s.env.agenda = .dispatch tie picked :: rest →
    ((∀ src : Source, ¬ s.eligibleFor src) → step s = .next { s with env := { s.env with agenda := rest } }) ∧
    (∀ src : Source, s.eligibleFor src →
      ∃ chosen : Source, s.mostUrgent chosen ∧ (s.mostUrgent tie → chosen = tie) ∧
        ((chosen = .tick → s.canCount = true) →
          ∃ t, step s = .next t ∧ { s with env := { s.env with agenda := rest } }.servedTo chosen picked t))

/-- 60_exceptions.md R291 to R294: a source in service is not eligible; a dispatcher step leaves the engine, the BIU, the
buffers, the wire and `IE` alone; a display or tick handler leaves `INSVC` as it was; the edge handler, and only it, leaves
`INSVC[EDGE]` set. -/
def Obligations.HandlersEnterAndReturn : Prop :=
  ∀ (s t : State) (tie : Source) (picked : DispEvent) (rest : List Turn), s.env.agenda = .dispatch tie picked :: rest →
    step s = .next t →
    (∀ src : Source, s.irq.insvc.get src = true → ¬ s.eligibleFor src) ∧
    t.bte = s.bte ∧ t.biu = s.biu ∧ t.wbuf = s.wbuf ∧ t.rbuf = s.rbuf ∧ t.wire = s.wire ∧ t.irq.ie = s.irq.ie ∧
    t.irq.insvc.disp = s.irq.insvc.disp ∧ t.irq.insvc.tick = s.irq.insvc.tick ∧
    (t.irq.insvc = s.irq.insvc ∧ t.ctx = s.ctx ∧ t.irq.eif = s.irq.eif ∨
     s.irq.insvc.edge = false ∧ t.irq.insvc.edge = true ∧ t.irq.eif = false ∧
       t.ctx.edge.prog = edgeHandler s.par.sensor ∧ t.drs = s.drs ∧ t.stk = s.stk ∧ t.fb = s.fb)

/-- 60_exceptions.md R288, R294, 95_test_vectors.md X3, X4: with the default priorities, while the edge handler is in service the
dispatcher serves the display only: no tick is counted, no edge is served, and the edge handler's own progress is untouched. With
both display events pending the one the turn picks is served and the other stays pending (R290 c). -/
def Obligations.EdgeHandlerMasksTicks : Prop :=
  ∀ (s : State) (tie : Source) (picked : DispEvent) (rest : List Turn), s.env.agenda = .dispatch tie picked :: rest →
    s.par.prio = { disp := 0, tick := 1, edge := 1 } → s.irq.insvc = { disp := false, tick := false, edge := true } →
    ∃ t, step s = .next t ∧ t.stk = s.stk ∧ t.irq = s.irq ∧ t.ctx = s.ctx ∧ t.fb = s.fb ∧
      (s.irq.ie.disp = true → s.drs.uif = true → (s.drs.ccif = false ∨ picked = .update) →
        t.drs.uif = false ∧ t.drs.ccif = s.drs.ccif ∧ t.drs.digitIdx = s.drs.digitIdx + 1#2) ∧
      (s.irq.ie.disp = true → s.drs.ccif = true → (s.drs.uif = false ∨ picked = .compare) →
        t.drs.ccif = false ∧ t.drs.uif = s.drs.uif ∧ t.drs.an = 0xF#4 ∧ t.drs.ca = 0xFF#8) ∧
      (s.irq.ie.disp = false ∨ (s.drs.uif = false ∧ s.drs.ccif = false) → t.drs = s.drs)

/-- 44_sensor_bridge_host.md R262: the edge handler clears its latch and has before it, word by word, the read of the mode register,
the test, the interrupt-clear write and its return (running it step by step in the edge context is the model's reading,
notes/assumptions/12.md). -/
def Obligations.EdgeHandlerBegins : Prop :=
  ∀ (s : State) (c : Sensor) (first second clear1 clear2 : Byte), s.par.sensor = c →
    first = regFirstByte c.order c.regIntMode → second = regSecondByte c.order c.regIntMode →
    clear1 = regFirstByte c.order c.regIntClear → clear2 = regSecondByte c.order c.regIntClear →
    (c.order = .highFirst → first ++ second = c.regIntMode ∧ clear1 ++ clear2 = c.regIntClear) ∧
    (c.order = .lowFirst → second ++ first = c.regIntMode ∧ clear2 ++ clear1 = c.regIntClear) ∧
    exec .evSensorEdge s = .next { s with
      irq := { s.irq with eif := false },
      ctx := { s.ctx with edge := { s.ctx.edge with prog :=
        [.command (encodeB 0x03#8 0#8 first), .command (encodeB 0x03#8 1#8 second),
         .command (encodeT 0x02#8 c.addr 2#8 1#8), .command (encodeB 0x04#8 0#8 0#8),
         .edgeTest,
         .command (encodeB 0x03#8 0#8 clear1), .command (encodeB 0x03#8 1#8 clear2),
         .command (encodeB 0x03#8 2#8 c.valIntClear), .command (encodeT 0x02#8 c.addr 3#8 0#8),
         .handlerReturn] } } }

/-- 44_sensor_bridge_host.md R262, R265: one run of the edge handler on a device that acknowledges everything and answers the read
with v triggers the stopwatch exactly once if v is `MODE_LOW` and never otherwise, arms the other threshold, always ends with the
interrupt-clear write, and returns (under the model's quiet order, notes/assumptions/1.md, 12.md). -/
def Obligations.EdgeHandlerRun : Prop :=
  ∀ (s : State) (c : Sensor) (v : Byte) (laterBytes : List Byte) (laterAcks : List Bool),
    s.par.sensor = c → s.bte.seq = 0x00#5 → s.biu.quiet = true → s.env.agenda = [] →
    s.irq.insvc.edge = true → s.ctx.edge.awaiting = false → s.ctx.edge.prog = edgeHandler c →
    s.env.acks = List.replicate 12 true ++ laterAcks → s.env.bytes = v :: laterBytes →
    ∃ (t : State) (k : Nat), Sys2Proof.core.run k s = .next t ∧
      t.wire = s.wire ++
        transactionSymbols c.addr [regFirstByte c.order c.regIntMode, regSecondByte c.order c.regIntMode] [v] ++
        transactionSymbols c.addr [regFirstByte c.order c.regIntMode, regSecondByte c.order c.regIntMode,
          if v = c.modeLow then c.modeHigh else c.modeLow] [] ++
        transactionSymbols c.addr [regFirstByte c.order c.regIntClear, regSecondByte c.order c.regIntClear,
          c.valIntClear] [] ∧
      t.stk.swState.code.toNat = (s.stk.swState.code.toNat + (if v = c.modeLow then 1 else 0)) % 3 ∧
      (v ≠ c.modeLow → t.stk = s.stk ∧ t.fb = s.fb) ∧
      t.irq = { s.irq with insvc := { s.irq.insvc with edge := false } } ∧
      t.ctx.edge.prog = [] ∧ t.ctx.edge.awaiting = false ∧ t.bte.seq = 0x00#5 ∧ t.biu.quiet = true ∧ t.drs = s.drs ∧
      t.env = { s.env with acks := laterAcks, bytes := laterBytes }

/-- 44_sensor_bridge_host.md R262, R267, 60_exceptions.md R292: while the edge handler has something left to do but its return, no
step but reset ends its service. -/
def Obligations.EdgeHandlerStaysInService : Prop :=
  ∀ s t : State, s.handlersOk = true → s.irq.insvc.edge = true → s.turnNow ≠ .reset →
    s.ctx.edge.prog ≠ [.handlerReturn] → step s = .next t → t.irq.insvc.edge = true

/-- 70_reset_and_hazards.md R323, 44_sensor_bridge_host.md R264: what main-line gives in the boot sequence, in order, and what the test
of the fresh-out-of-reset byte puts before the rest: with it not 0 the writes of `CAL_TABLE` in table order, then of 0 to
`REG_FRESH_RESET`; with it 0 nothing. Nothing else changes (clocks and pins are board support's, 00_scope.md R7). That the sequence
comes after what main-line still had to give is the model's choice (notes/assumptions/26.md). -/
def Obligations.BootOrder : Prop :=
  (∀ (s : State) (rest : List Turn) (c : Sensor), s.env.agenda = .boot :: rest → s.par.sensor = c →
    step s = .next { s with
      env := { s.env with agenda := rest },
      ctx := { s.ctx with main := { s.ctx.main with
        prog := s.ctx.main.prog ++
          ([.command 0x01000000#32, .command 0x20000000#32] ++ readRegWords c c.regFreshReset ++ [.freshTest] ++
           writeRegWords c c.regIntMode c.modeLow ++ writeRegWords c c.regStart c.valStartCont ++
           [.enableLine .disp, .enableLine .tick, .enableLine .edge]) } } }) ∧
  (∀ (s : State) (rest : List Turn) (c : Sensor) (ops : List HostOp), s.env.agenda = .host .main :: rest → s.par.sensor = c →
    s.ctx.main.awaiting = false → s.ctx.main.prog = .freshTest :: ops →
    step s = .next { s with
      env := { s.env with agenda := rest },
      ctx := { s.ctx with
        giver := .main,
        main := { s.ctx.main with
          prog :=
            (if s.ctx.main.resp = 0#8 then []
             else c.calTable.flatMap (fun e => writeRegWords c e.1 e.2) ++ writeRegWords c c.regFreshReset 0#8) ++ ops } } })

/-! ### What belongs to whom -/

/-- 10_state.md R38: the BTE's commands and micro-operations leave the display, the stopwatch, the interrupt bits and `FB` alone; the
other commands and the events leave the engine, the BIU, the buffers, the wire and the answer alone; only `BTE_WPUT` writes `WBUF`,
only `R_DATA` writes `RBUF`, only `BTE_RGET` answers; no instruction touches `IE`, `INSVC` or the parameters. -/
def Obligations.UnitsAreSeparate : Prop :=
  ∀ (i : Instr) (s t : State), exec i s = .next t →
    (i.kind = .bteCommand ∨ i.kind = .micro → t.drs = s.drs ∧ t.stk = s.stk ∧ t.irq = s.irq ∧ t.fb = s.fb) ∧
    (i.kind = .unitCommand ∨ i.kind = .event →
      t.bte = s.bte ∧ t.biu = s.biu ∧ t.wbuf = s.wbuf ∧ t.rbuf = s.rbuf ∧ t.wire = s.wire ∧ t.rsp = s.rsp ∧ t.env = s.env) ∧
    (t.wbuf ≠ s.wbuf → ∃ idx byte, i = .bteWput idx byte) ∧
    (t.rbuf ≠ s.rbuf → i = .rData) ∧
    (t.rsp ≠ s.rsp → ∃ idx, i = .bteRget idx) ∧
    t.irq.ie = s.irq.ie ∧ t.irq.insvc = s.irq.insvc ∧ t.par = s.par

/-- 60_exceptions.md R287, 10_state.md R45, 00_scope.md R14, 10_state.md R56: no step but reset disables a source's line, stops the
display timer, takes a symbol off the wire or makes a written buffer entry hold no value; no step at all changes a parameter. That
board support never disables a line it has enabled is the model's reading of R287 (notes/assumptions/20.md), and that no step changes
a parameter is the model's choice (notes/assumptions/9.md). -/
def Obligations.OnlyResetForgets : Prop :=
  ∀ s t : State, step s = .next t →
    t.par = s.par ∧
    (s.turnNow ≠ .reset →
      (∀ src : Source, s.irq.ie.get src = true → t.irq.ie.get src = true) ∧
      (s.drs.den = true → t.drs.den = true) ∧
      (∃ xs : List Symbol, t.wire = s.wire ++ xs) ∧
      (∀ (sp : Space) (i : Nat), (s.readByte sp i).isSome = true → (t.readByte sp i).isSome = true))

/-! ### Reset -/

/-- 70_reset_and_hazards.md R321, 10_state.md R49, R55: every value the spec gives after reset. The registers it leaves unspecified
(`DEVADDR`, `WLEN`, `RLEN`, `DR`, `SH`) are not mentioned; the buffers hold no value. -/
def Obligations.ResetValues : Prop :=
  State.reset.bte.seq = 0x00#5 ∧ State.reset.busy = false ∧ State.reset.bte.widx = 0#8 ∧ State.reset.bte.ridx = 0#8 ∧
  State.reset.biu.mode = .idle ∧ State.reset.biu.claim = false ∧ State.reset.biu.drf = false ∧
  State.reset.biu.shf = false ∧ State.reset.biu.ackl = false ∧ State.reset.biu.acken = false ∧
  State.reset.biu.startreq = false ∧ State.reset.biu.stopreq = false ∧ State.reset.biu.noFlags = true ∧
  State.reset.drs.an = 0xF#4 ∧ State.reset.drs.ca = 0xFF#8 ∧ State.reset.drs.digitIdx = 0#2 ∧
  State.reset.drs.den = false ∧ State.reset.drs.uif = false ∧ State.reset.drs.ccif = false ∧
  State.reset.stk = { swState := .idle, counter := 0#32, ten := false, tif := false } ∧
  State.reset.irq.eif = false ∧ State.reset.wire = [] ∧
  (∀ src : Source, State.reset.irq.ie.get src = false ∧ State.reset.irq.insvc.get src = false) ∧
  (∀ k : Nat, k < 4 → State.reset.readByte .fb k = some 0x00#8) ∧
  (∀ k : Nat, State.reset.readByte .wbuf k = none ∧ State.reset.readByte .rbuf k = none)

/-- 70_reset_and_hazards.md R320: reset at any step puts the block in the state after reset whatever it held; the parameters and the
environment's lists are not the block's (notes/assumptions/19.md). -/
def Obligations.ResetForgetsEverything : Prop :=
  ∀ (s : State) (rest : List Turn), s.env.agenda = .reset :: rest →
    step s = .next { State.reset with
      par := s.par, env := { s.env with agenda := rest, boots := s.env.boots + 1 } }

/-! ### Invariants -/

/-- Every invariant below holds after reset. -/
def Obligations.ResetHasTheInvariants : Prop :=
  State.reset.memoriesOk = true ∧ State.reset.seqOk = true ∧ State.reset.protocolOk = true ∧
  State.reset.biu.flagsOk = true ∧ State.reset.stk.ok = true ∧ State.reset.handlersOk = true ∧
  State.reset.readsAskedFor = true ∧ State.reset.noBench = true

/-- Every step keeps the three memories canonical and inside their spaces (20_memory.md R80). -/
def Obligations.MemoriesStayCanonical : Prop :=
  ∀ s t : State, s.memoriesOk = true → step s = .next t → t.memoriesOk = true

/-- 10_state.md R41, 60_exceptions.md R280: from a legal `SEQ` every step, whosever turn it is, has a next state, and `SEQ` is legal
again: the reserved codes are never written. The one exception is a tick at 2^32 − 1 where the model faults by name, as R240 asks of
a model (notes/assumptions/6.md). -/
def Obligations.EveryStepSucceeds : Prop :=
  ∀ s : State, s.seqOk = true →
    (∃ t, step s = .next t ∧ t.seqOk = true) ∨
    (s.par.overflow = .faults ∧ s.stk.counter.toNat = 2 ^ 32 - 1 ∧ s.stk.tif = true ∧ step s = .fault .counterOverflow)

/-- Under the engine-priority schedule every step keeps engine and BIU in step with each other: the invariant behind
40_bus_transaction_engine.md R170, R174, R175 and 41_bus_interface_unit.md R198. -/
def Obligations.EngineAndBusStayInStep : Prop :=
  ∀ s t : State, s.par.sched = .enginePriority → s.protocolOk = true → step s = .next t → t.protocolOk = true

/-- 41_bus_interface_unit.md R198: the flag invariants, those of `RXNE` and of the left-over `TXE` of FAIL among them, hold whenever
engine and BIU are in step, and so after every step from there under the engine-priority schedule. -/
def Obligations.FlagInvariants : Prop :=
  (∀ s : State, s.protocolOk = true → s.biu.flagsOk = true) ∧
  (∀ s t : State, s.par.sched = .enginePriority → s.protocolOk = true → step s = .next t → t.biu.flagsOk = true)

/-- 43_stopwatch_tick.md R239 (a) to (d), for a machine into which no test bench injects events: every step keeps the invariant, and
the counter changes only in RUNNING, by one (modulo 2^32 where the parameter `overflow` is `wraps`, notes/assumptions/6.md), but for
reset, `STK_INIT` and the transition to IDLE, which set it to 0. -/
def Obligations.StopwatchInvariant : Prop :=
  ∀ s t : State, s.noBench = true → s.stk.ok = true → step s = .next t →
    t.noBench = true ∧ t.stk.ok = true ∧
    (t.stk.counter ≠ s.stk.counter →
      (s.stk.swState = .running ∧ t.stk.swState = .running ∧ t.stk.counter = s.stk.counter + 1#32) ∨
      (t.stk.swState = .idle ∧ t.stk.counter = 0#32))

/-- 60_exceptions.md R289, R292, 44_sensor_bridge_host.md R267: between steps no display or tick handler is in service, and the edge
handler is in service exactly while it has something left to do. -/
def Obligations.HandlersInvariant : Prop :=
  ∀ s t : State, s.handlersOk = true → step s = .next t → t.handlersOk = true

end
end

