-- ==== Sys2Proof/Laws/Encoding.lean ====
section
/-! SUPPORT. The encoder's three formats bit by bit, and the fields the decoder reads back from them (30_encoding.md R111). -/

namespace Sys2Proof

theorem Word.op_bit (w : Word) (k : Nat) : w.op.getLsbD k = (decide (k < 8) && w.getLsbD (24 + k)) := by
  simp [Word.op, BitVec.getLsbD_extractLsb']

theorem Word.hiByte_bit (w : Word) (k : Nat) : w.hiByte.getLsbD k = (decide (k < 8) && w.getLsbD (8 + k)) := by
  simp [Word.hiByte, BitVec.getLsbD_extractLsb']

theorem Word.loByte_bit (w : Word) (k : Nat) : w.loByte.getLsbD k = (decide (k < 8) && w.getLsbD k) := by
  simp [Word.loByte, BitVec.getLsbD_extractLsb']

theorem Word.addrT_bit (w : Word) (k : Nat) : w.addrT.getLsbD k = (decide (k < 7) && w.getLsbD (16 + k)) := by
  simp [Word.addrT, BitVec.getLsbD_extractLsb']

theorem Word.zeroB_bit (w : Word) (k : Nat) : w.zeroB.getLsbD k = (decide (k < 8) && w.getLsbD (16 + k)) := by
  simp [Word.zeroB, BitVec.getLsbD_extractLsb']

theorem Word.zeroT_bit (w : Word) (k : Nat) : w.zeroT.getLsbD k = (decide (k < 1) && w.getLsbD (23 + k)) := by
  simp [Word.zeroT, BitVec.getLsbD_extractLsb']

theorem Word.zeroZ_bit (w : Word) (k : Nat) : w.zeroZ.getLsbD k = (decide (k < 24) && w.getLsbD k) := by
  simp [Word.zeroZ, BitVec.getLsbD_extractLsb']

/-- Format B, bit by bit. -/
theorem encodeB_bit (op idx byte : BitVec 8) (k : Nat) :
    (encodeB op idx byte).getLsbD k =
      if k < 8 then byte.getLsbD k else if k < 16 then idx.getLsbD (k - 8)
      else if k < 24 then false else op.getLsbD (k - 24) := by
  have h := BitVec.getLsbD_append (x := op) (y := 0#8 ++ (idx ++ byte)) (i := k)
  unfold encodeB
  refine Eq.trans h ?_
  rw [BitVec.getLsbD_append, BitVec.getLsbD_append, BitVec.getLsbD_zero]
  have : k - 8 - 8 = k - 16 := by omega
  split_ifs <;> first | rfl | omega

/-- Format T, bit by bit. -/
theorem encodeT_bit (op : BitVec 8) (addr : BitVec 7) (m n : BitVec 8) (k : Nat) :
    (encodeT op addr m n).getLsbD k =
      if k < 8 then n.getLsbD k else if k < 16 then m.getLsbD (k - 8)
      else if k < 23 then addr.getLsbD (k - 16) else if k < 24 then false else op.getLsbD (k - 24) := by
  have h := BitVec.getLsbD_append (x := op) (y := 0#1 ++ (addr ++ (m ++ n))) (i := k)
  unfold encodeT
  refine Eq.trans h ?_
  rw [BitVec.getLsbD_append, BitVec.getLsbD_append, BitVec.getLsbD_append, BitVec.getLsbD_zero]
  have : k - 8 - 8 = k - 16 := by omega
  split_ifs <;> first | rfl | omega

/-! ### The fields of a format B word -/

@[simp] theorem encodeB_op (op idx byte : BitVec 8) : (encodeB op idx byte).op = op := by
  apply BitVec.eq_of_getLsbD_eq
  intro k hk
  rw [Word.op_bit, encodeB_bit, if_neg (by omega), if_neg (by omega), if_neg (by omega), Nat.add_sub_cancel_left]
  simp [hk]

@[simp] theorem encodeB_zeroB (op idx byte : BitVec 8) : (encodeB op idx byte).zeroB = 0 := by
  apply BitVec.eq_of_getLsbD_eq
  intro k hk
  rw [Word.zeroB_bit, encodeB_bit, if_neg (by omega), if_neg (by omega), if_pos (by omega)]
  simp

@[simp] theorem encodeB_hiByte (op idx byte : BitVec 8) : (encodeB op idx byte).hiByte = idx := by
  apply BitVec.eq_of_getLsbD_eq
  intro k hk
  rw [Word.hiByte_bit, encodeB_bit, if_neg (by omega), if_pos (by omega), Nat.add_sub_cancel_left]
  simp [hk]

@[simp] theorem encodeB_loByte (op idx byte : BitVec 8) : (encodeB op idx byte).loByte = byte := by
  apply BitVec.eq_of_getLsbD_eq
  intro k hk
  rw [Word.loByte_bit, encodeB_bit, if_pos hk]
  simp [hk]

/-! ### The fields of a format T word -/

@[simp] theorem encodeT_op (op : BitVec 8) (addr : BitVec 7) (m n : BitVec 8) : (encodeT op addr m n).op = op := by
  apply BitVec.eq_of_getLsbD_eq
  intro k hk
  rw [Word.op_bit, encodeT_bit, if_neg (by omega), if_neg (by omega), if_neg (by omega), if_neg (by omega),
    Nat.add_sub_cancel_left]
  simp [hk]

@[simp] theorem encodeT_zeroT (op : BitVec 8) (addr : BitVec 7) (m n : BitVec 8) : (encodeT op addr m n).zeroT = 0 := by
  apply BitVec.eq_of_getLsbD_eq
  intro k hk
  rw [Word.zeroT_bit, encodeT_bit, if_neg (by omega), if_neg (by omega), if_neg (by omega), if_pos (by omega)]
  simp

@[simp] theorem encodeT_addrT (op : BitVec 8) (addr : BitVec 7) (m n : BitVec 8) :
    (encodeT op addr m n).addrT = addr := by
  apply BitVec.eq_of_getLsbD_eq
  intro k hk
  rw [Word.addrT_bit, encodeT_bit, if_neg (by omega), if_neg (by omega), if_pos (by omega), Nat.add_sub_cancel_left]
  simp [hk]

@[simp] theorem encodeT_hiByte (op : BitVec 8) (addr : BitVec 7) (m n : BitVec 8) : (encodeT op addr m n).hiByte = m := by
  apply BitVec.eq_of_getLsbD_eq
  intro k hk
  rw [Word.hiByte_bit, encodeT_bit, if_neg (by omega), if_pos (by omega), Nat.add_sub_cancel_left]
  simp [hk]

@[simp] theorem encodeT_loByte (op : BitVec 8) (addr : BitVec 7) (m n : BitVec 8) : (encodeT op addr m n).loByte = n := by
  apply BitVec.eq_of_getLsbD_eq
  intro k hk
  rw [Word.loByte_bit, encodeT_bit, if_pos hk]
  simp [hk]

end Sys2Proof
end

