-- ==== Sys2Proof/Laws/Memory.lean ====
section
/-! SUPPORT. The laws of the byte memories: what a read sees after a write, and that every write keeps the canonical form. -/

namespace Sys2Proof.Machine

/-! ### Listed entries -/

theorem Memory.find_insert_same (m : Memory) (a : Nat) (b : Byte) : Memory.find (Memory.insert m a b) a = some b := by
  induction m with
  | nil => simp [Memory.insert, Memory.find]
  | cons e m ih =>
    obtain ⟨k, v⟩ := e
    unfold Memory.insert
    split
    · simp [Memory.find]
    · split
      · simp [Memory.find]
      · rename_i h
        have : k ≠ a := fun h' => h h'.symm
        simp [Memory.find, this, ih]

theorem Memory.find_insert_other (m : Memory) (a c : Nat) (b : Byte) (h : a ≠ c) :
    Memory.find (Memory.insert m a b) c = Memory.find m c := by
  induction m with
  | nil => simp [Memory.insert, Memory.find, h]
  | cons e m ih =>
    obtain ⟨k, v⟩ := e
    unfold Memory.insert
    split
    · simp [Memory.find, h]
    · split
      · rename_i hk
        subst hk
        simp [Memory.find, h]
      · simp [Memory.find, ih]

theorem Memory.find_erase_other (m : Memory) (a c : Nat) (h : a ≠ c) :
    Memory.find (Memory.erase m a) c = Memory.find m c := by
  induction m with
  | nil => rfl
  | cons e m ih =>
    obtain ⟨k, v⟩ := e
    unfold Memory.erase
    split
    · rename_i hk
      have : k ≠ c := fun h' => h (hk ▸ h')
      simp [Memory.find, this]
    · simp [Memory.find, ih]

theorem Memory.find_below (m : Memory) (lo a : Nat) (hr : Memory.risesFrom lo m = true) (h : a < lo) :
    Memory.find m a = none := by
  induction m generalizing lo with
  | nil => rfl
  | cons e m ih =>
    obtain ⟨k, v⟩ := e
    simp only [Memory.risesFrom, Bool.and_eq_true, decide_eq_true_eq] at hr
    have hk : k ≠ a := by omega
    simp only [Memory.find, hk, if_false]
    exact ih (k + 1) hr.2 (by omega)

theorem Memory.find_erase_same (m : Memory) (lo a : Nat) (hr : Memory.risesFrom lo m = true) :
    Memory.find (Memory.erase m a) a = none := by
  induction m generalizing lo with
  | nil => rfl
  | cons e m ih =>
    obtain ⟨k, v⟩ := e
    simp only [Memory.risesFrom, Bool.and_eq_true, decide_eq_true_eq] at hr
    unfold Memory.erase
    split
    · rename_i hk
      exact Memory.find_below m (k + 1) a hr.2 (by omega)
    · rename_i hk
      simp only [Memory.find, hk, if_false]
      exact ih (k + 1) hr.2

/-! ### Reading after writing -/

theorem Memory.wf_rises {sp : Space} {m : Memory} (h : Memory.wf sp m = true) : Memory.risesFrom 0 m = true := by
  simp only [Memory.wf, Bool.and_eq_true] at h
  exact h.1

/-- A read of the entry written gives the byte written. -/
theorem Memory.read_write_same (sp : Space) (m : Memory) (a : Nat) (b : Byte) (h : Memory.wf sp m = true) :
    Memory.read sp (Memory.write sp m a b) a = some b := by
  unfold Memory.read Memory.write
  split
  · rename_i hb
    split at hb
    · rw [Memory.find_erase_same m 0 a (Memory.wf_rises h)] at hb; cases hb
    · rw [Memory.find_insert_same] at hb; exact hb.symm
  · rename_i hb
    split at hb
    · assumption
    · rw [Memory.find_insert_same] at hb; cases hb

/-- In a space whose unlisted entries hold no value, no canonical form is needed. -/
theorem Memory.read_write_same_of_unlisted (sp : Space) (m : Memory) (a : Nat) (b : Byte) (h : sp.unlisted = none) :
    Memory.read sp (Memory.write sp m a b) a = some b := by
  simp [Memory.read, Memory.write, h, Memory.find_insert_same]

/-- A write leaves every other entry alone. -/
theorem Memory.read_write_other (sp : Space) (m : Memory) (a c : Nat) (b : Byte) (h : a ≠ c) :
    Memory.read sp (Memory.write sp m a b) c = Memory.read sp m c := by
  unfold Memory.read Memory.write
  by_cases hu : sp.unlisted = some b
  · simp only [hu, if_true, Memory.find_erase_other m a c h]
  · simp only [hu, if_false, Memory.find_insert_other m a c b h]

/-! ### The canonical form -/

theorem Memory.rises_weaken (m : Memory) (lo hi : Nat) (h : lo ≤ hi) (hr : Memory.risesFrom hi m = true) :
    Memory.risesFrom lo m = true := by
  cases m with
  | nil => rfl
  | cons e m =>
    simp only [Memory.risesFrom, Bool.and_eq_true, decide_eq_true_eq] at hr ⊢
    exact ⟨by omega, hr.2⟩

theorem Memory.rises_insert (m : Memory) (lo a : Nat) (b : Byte) (ha : lo ≤ a) (hr : Memory.risesFrom lo m = true) :
    Memory.risesFrom lo (Memory.insert m a b) = true := by
  induction m generalizing lo with
  | nil => simp [Memory.insert, Memory.risesFrom, ha]
  | cons e m ih =>
    obtain ⟨k, v⟩ := e
    simp only [Memory.risesFrom, Bool.and_eq_true, decide_eq_true_eq] at hr
    unfold Memory.insert
    split
    · rename_i hlt
      simp only [Memory.risesFrom, Bool.and_eq_true, decide_eq_true_eq]
      exact ⟨ha, by omega, hr.2⟩
    · split
      · rename_i hk
        subst hk
        simp only [Memory.risesFrom, Bool.and_eq_true, decide_eq_true_eq]
        exact ⟨ha, hr.2⟩
      · simp only [Memory.risesFrom, Bool.and_eq_true, decide_eq_true_eq]
        exact ⟨hr.1, ih (k + 1) (by omega) hr.2⟩

theorem Memory.rises_erase (m : Memory) (lo a : Nat) (hr : Memory.risesFrom lo m = true) :
    Memory.risesFrom lo (Memory.erase m a) = true := by
  induction m generalizing lo with
  | nil => rfl
  | cons e m ih =>
    obtain ⟨k, v⟩ := e
    simp only [Memory.risesFrom, Bool.and_eq_true, decide_eq_true_eq] at hr
    unfold Memory.erase
    split
    · exact Memory.rises_weaken m lo (k + 1) (by omega) hr.2
    · simp only [Memory.risesFrom, Bool.and_eq_true, decide_eq_true_eq]
      exact ⟨hr.1, ih (k + 1) hr.2⟩

theorem Memory.all_insert (p : Host.Cell → Bool) (m : Memory) (a : Nat) (b : Byte) (hp : p (a, b) = true)
    (hm : m.all p = true) : (Memory.insert m a b).all p = true := by
  induction m with
  | nil => simp [Memory.insert, hp]
  | cons e m ih =>
    obtain ⟨k, v⟩ := e
    simp only [List.all_cons, Bool.and_eq_true] at hm
    unfold Memory.insert
    split
    · simp only [List.all_cons, hp, hm.1, hm.2, Bool.and_self]
    · split
      · simp only [List.all_cons, hp, hm.2, Bool.and_self]
      · simp only [List.all_cons, hm.1, ih hm.2, Bool.and_self]

theorem Memory.all_erase (p : Host.Cell → Bool) (m : Memory) (a : Nat) (hm : m.all p = true) :
    (Memory.erase m a).all p = true := by
  induction m with
  | nil => rfl
  | cons e m ih =>
    obtain ⟨k, v⟩ := e
    simp only [List.all_cons, Bool.and_eq_true] at hm
    unfold Memory.erase
    split
    · exact hm.2
    · simp only [List.all_cons, hm.1, ih hm.2, Bool.and_self]

/-- Every write inside the space keeps the canonical form. -/
theorem Memory.write_wf (sp : Space) (m : Memory) (a : Nat) (b : Byte) (ha : a < sp.size) (h : Memory.wf sp m = true) :
    Memory.wf sp (Memory.write sp m a b) = true := by
  simp only [Memory.wf, Bool.and_eq_true] at h ⊢
  unfold Memory.write
  split
  · exact ⟨Memory.rises_erase m 0 a h.1, Memory.all_erase _ m a h.2⟩
  · rename_i hb
    refine ⟨Memory.rises_insert m 0 a b (Nat.zero_le a) h.1, Memory.all_insert _ m a b ?_ h.2⟩
    simp only [Bool.and_eq_true, decide_eq_true_eq]
    exact ⟨ha, hb⟩

/-- The memories after reset are canonical. -/
theorem State.reset_memories_wf (sp : Space) : Memory.wf sp (State.reset.mem sp) = true := by
  cases sp <;> rfl

/-! ### The same laws at the state -/

theorem State.readByte_writeByte_same (s : State) (sp : Space) (i : Nat) (v : Byte)
    (h : Memory.wf sp (s.mem sp) = true) : (s.writeByte sp i v).readByte sp i = some v := by
  cases sp <;> exact Memory.read_write_same _ _ _ _ h

theorem State.readByte_writeByte_other (s : State) (sp sp' : Space) (i j : Nat) (v : Byte) (h : sp ≠ sp' ∨ i ≠ j) :
    (s.writeByte sp i v).readByte sp' j = s.readByte sp' j := by
  cases sp <;> cases sp' <;>
    first
      | rfl
      | exact Memory.read_write_other _ _ _ _ _ (h.resolve_left (fun h => h rfl))

theorem State.mem_writeByte_wf (s : State) (sp sp' : Space) (i : Nat) (v : Byte) (hi : i < sp.size)
    (h : Memory.wf sp' (s.mem sp') = true) : Memory.wf sp' ((s.writeByte sp i v).mem sp') = true := by
  cases sp <;> cases sp' <;>
    first
      | exact h
      | exact Memory.write_wf _ _ _ _ hi h

/-- Reading with free values agrees with reading where there is a value. -/
theorem State.loadByte_of_readByte (s : State) (sp : Space) (i : Nat) (b : Byte) (h : s.readByte sp i = some b) :
    s.loadByte sp i = b := by
  simp [State.loadByte, h]

/-- A frame-buffer slot always holds a value. -/
theorem State.readByte_fb (s : State) (i : Nat) : s.readByte .fb i = some (s.loadByte .fb i) := by
  unfold State.loadByte State.readByte Memory.read
  cases Memory.find (s.mem .fb) i <;> rfl

end Sys2Proof.Machine
end

