-- ==== Sys2Proof/Laws/State.lean ====
section
/-! SUPPORT. One lemma per field of the state and per update of it, so that no proof unfolds an update: what each named operation
leaves in each field. -/

namespace Sys2Proof.Machine

/-! ### `setSeq` -/

@[simp] theorem State.setSeq_bte (s : State) (c : BitVec 5) : (s.setSeq c).bte = { s.bte with seq := c } := rfl
@[simp] theorem State.setSeq_biu (s : State) (c : BitVec 5) : (s.setSeq c).biu = s.biu := rfl
@[simp] theorem State.setSeq_drs (s : State) (c : BitVec 5) : (s.setSeq c).drs = s.drs := rfl
@[simp] theorem State.setSeq_stk (s : State) (c : BitVec 5) : (s.setSeq c).stk = s.stk := rfl
@[simp] theorem State.setSeq_irq (s : State) (c : BitVec 5) : (s.setSeq c).irq = s.irq := rfl
@[simp] theorem State.setSeq_fb (s : State) (c : BitVec 5) : (s.setSeq c).fb = s.fb := rfl
@[simp] theorem State.setSeq_wbuf (s : State) (c : BitVec 5) : (s.setSeq c).wbuf = s.wbuf := rfl
@[simp] theorem State.setSeq_rbuf (s : State) (c : BitVec 5) : (s.setSeq c).rbuf = s.rbuf := rfl
@[simp] theorem State.setSeq_wire (s : State) (c : BitVec 5) : (s.setSeq c).wire = s.wire := rfl
@[simp] theorem State.setSeq_rsp (s : State) (c : BitVec 5) : (s.setSeq c).rsp = s.rsp := rfl
@[simp] theorem State.setSeq_ctx (s : State) (c : BitVec 5) : (s.setSeq c).ctx = s.ctx := rfl
@[simp] theorem State.setSeq_env (s : State) (c : BitVec 5) : (s.setSeq c).env = s.env := rfl
@[simp] theorem State.setSeq_par (s : State) (c : BitVec 5) : (s.setSeq c).par = s.par := rfl

/-! ### `emit` -/

@[simp] theorem State.emit_bte (s : State) (x : Symbol) : (s.emit x).bte = s.bte := rfl
@[simp] theorem State.emit_biu (s : State) (x : Symbol) : (s.emit x).biu = s.biu := rfl
@[simp] theorem State.emit_drs (s : State) (x : Symbol) : (s.emit x).drs = s.drs := rfl
@[simp] theorem State.emit_stk (s : State) (x : Symbol) : (s.emit x).stk = s.stk := rfl
@[simp] theorem State.emit_irq (s : State) (x : Symbol) : (s.emit x).irq = s.irq := rfl
@[simp] theorem State.emit_fb (s : State) (x : Symbol) : (s.emit x).fb = s.fb := rfl
@[simp] theorem State.emit_wbuf (s : State) (x : Symbol) : (s.emit x).wbuf = s.wbuf := rfl
@[simp] theorem State.emit_rbuf (s : State) (x : Symbol) : (s.emit x).rbuf = s.rbuf := rfl
@[simp] theorem State.emit_wire (s : State) (x : Symbol) : (s.emit x).wire = s.wire ++ [x] := rfl
@[simp] theorem State.emit_rsp (s : State) (x : Symbol) : (s.emit x).rsp = s.rsp := rfl
@[simp] theorem State.emit_ctx (s : State) (x : Symbol) : (s.emit x).ctx = s.ctx := rfl
@[simp] theorem State.emit_env (s : State) (x : Symbol) : (s.emit x).env = s.env := rfl
@[simp] theorem State.emit_par (s : State) (x : Symbol) : (s.emit x).par = s.par := rfl

/-! ### `useFree` -/

@[simp] theorem State.useFree_bte (s : State) : (s.useFree).bte = s.bte := rfl
@[simp] theorem State.useFree_biu (s : State) : (s.useFree).biu = s.biu := rfl
@[simp] theorem State.useFree_drs (s : State) : (s.useFree).drs = s.drs := rfl
@[simp] theorem State.useFree_stk (s : State) : (s.useFree).stk = s.stk := rfl
@[simp] theorem State.useFree_irq (s : State) : (s.useFree).irq = s.irq := rfl
@[simp] theorem State.useFree_fb (s : State) : (s.useFree).fb = s.fb := rfl
@[simp] theorem State.useFree_wbuf (s : State) : (s.useFree).wbuf = s.wbuf := rfl
@[simp] theorem State.useFree_rbuf (s : State) : (s.useFree).rbuf = s.rbuf := rfl
@[simp] theorem State.useFree_wire (s : State) : (s.useFree).wire = s.wire := rfl
@[simp] theorem State.useFree_rsp (s : State) : (s.useFree).rsp = s.rsp := rfl
@[simp] theorem State.useFree_ctx (s : State) : (s.useFree).ctx = s.ctx := rfl
@[simp] theorem State.useFree_env (s : State) : (s.useFree).env = { s.env with freeIx := s.env.freeIx + 1 } := rfl
@[simp] theorem State.useFree_par (s : State) : (s.useFree).par = s.par := rfl

/-! ### `enterHandler` -/

@[simp] theorem State.enterHandler_bte (s : State) (src : Source) : (s.enterHandler src).bte = s.bte := rfl
@[simp] theorem State.enterHandler_biu (s : State) (src : Source) : (s.enterHandler src).biu = s.biu := rfl
@[simp] theorem State.enterHandler_drs (s : State) (src : Source) : (s.enterHandler src).drs = s.drs := rfl
@[simp] theorem State.enterHandler_stk (s : State) (src : Source) : (s.enterHandler src).stk = s.stk := rfl
@[simp] theorem State.enterHandler_irq (s : State) (src : Source) :
    (s.enterHandler src).irq = { s.irq with insvc := s.irq.insvc.set src true } := rfl
@[simp] theorem State.enterHandler_fb (s : State) (src : Source) : (s.enterHandler src).fb = s.fb := rfl
@[simp] theorem State.enterHandler_wbuf (s : State) (src : Source) : (s.enterHandler src).wbuf = s.wbuf := rfl
@[simp] theorem State.enterHandler_rbuf (s : State) (src : Source) : (s.enterHandler src).rbuf = s.rbuf := rfl
@[simp] theorem State.enterHandler_wire (s : State) (src : Source) : (s.enterHandler src).wire = s.wire := rfl
@[simp] theorem State.enterHandler_rsp (s : State) (src : Source) : (s.enterHandler src).rsp = s.rsp := rfl
@[simp] theorem State.enterHandler_ctx (s : State) (src : Source) : (s.enterHandler src).ctx = s.ctx := rfl
@[simp] theorem State.enterHandler_env (s : State) (src : Source) : (s.enterHandler src).env = s.env := rfl
@[simp] theorem State.enterHandler_par (s : State) (src : Source) : (s.enterHandler src).par = s.par := rfl

/-! ### `leaveHandler` -/

@[simp] theorem State.leaveHandler_bte (s : State) (src : Source) : (s.leaveHandler src).bte = s.bte := rfl
@[simp] theorem State.leaveHandler_biu (s : State) (src : Source) : (s.leaveHandler src).biu = s.biu := rfl
@[simp] theorem State.leaveHandler_drs (s : State) (src : Source) : (s.leaveHandler src).drs = s.drs := rfl
@[simp] theorem State.leaveHandler_stk (s : State) (src : Source) : (s.leaveHandler src).stk = s.stk := rfl
@[simp] theorem State.leaveHandler_irq (s : State) (src : Source) :
    (s.leaveHandler src).irq = { s.irq with insvc := s.irq.insvc.set src false } := rfl
@[simp] theorem State.leaveHandler_fb (s : State) (src : Source) : (s.leaveHandler src).fb = s.fb := rfl
@[simp] theorem State.leaveHandler_wbuf (s : State) (src : Source) : (s.leaveHandler src).wbuf = s.wbuf := rfl
@[simp] theorem State.leaveHandler_rbuf (s : State) (src : Source) : (s.leaveHandler src).rbuf = s.rbuf := rfl
@[simp] theorem State.leaveHandler_wire (s : State) (src : Source) : (s.leaveHandler src).wire = s.wire := rfl
@[simp] theorem State.leaveHandler_rsp (s : State) (src : Source) : (s.leaveHandler src).rsp = s.rsp := rfl
@[simp] theorem State.leaveHandler_ctx (s : State) (src : Source) : (s.leaveHandler src).ctx = s.ctx := rfl
@[simp] theorem State.leaveHandler_env (s : State) (src : Source) : (s.leaveHandler src).env = s.env := rfl
@[simp] theorem State.leaveHandler_par (s : State) (src : Source) : (s.leaveHandler src).par = s.par := rfl

/-! ### `enableLine` -/

@[simp] theorem State.enableLine_bte (s : State) (src : Source) : (s.enableLine src).bte = s.bte := rfl
@[simp] theorem State.enableLine_biu (s : State) (src : Source) : (s.enableLine src).biu = s.biu := rfl
@[simp] theorem State.enableLine_drs (s : State) (src : Source) : (s.enableLine src).drs = s.drs := rfl
@[simp] theorem State.enableLine_stk (s : State) (src : Source) : (s.enableLine src).stk = s.stk := rfl
@[simp] theorem State.enableLine_irq (s : State) (src : Source) :
    (s.enableLine src).irq = { s.irq with ie := s.irq.ie.set src true } := rfl
@[simp] theorem State.enableLine_fb (s : State) (src : Source) : (s.enableLine src).fb = s.fb := rfl
@[simp] theorem State.enableLine_wbuf (s : State) (src : Source) : (s.enableLine src).wbuf = s.wbuf := rfl
@[simp] theorem State.enableLine_rbuf (s : State) (src : Source) : (s.enableLine src).rbuf = s.rbuf := rfl
@[simp] theorem State.enableLine_wire (s : State) (src : Source) : (s.enableLine src).wire = s.wire := rfl
@[simp] theorem State.enableLine_rsp (s : State) (src : Source) : (s.enableLine src).rsp = s.rsp := rfl
@[simp] theorem State.enableLine_ctx (s : State) (src : Source) : (s.enableLine src).ctx = s.ctx := rfl
@[simp] theorem State.enableLine_env (s : State) (src : Source) : (s.enableLine src).env = s.env := rfl
@[simp] theorem State.enableLine_par (s : State) (src : Source) : (s.enableLine src).par = s.par := rfl

/-! ### `setContext` -/

@[simp] theorem State.setContext_bte (s : State) (g : Giver) (x : HostCtx) : (s.setContext g x).bte = s.bte := rfl
@[simp] theorem State.setContext_biu (s : State) (g : Giver) (x : HostCtx) : (s.setContext g x).biu = s.biu := rfl
@[simp] theorem State.setContext_drs (s : State) (g : Giver) (x : HostCtx) : (s.setContext g x).drs = s.drs := rfl
@[simp] theorem State.setContext_stk (s : State) (g : Giver) (x : HostCtx) : (s.setContext g x).stk = s.stk := rfl
@[simp] theorem State.setContext_irq (s : State) (g : Giver) (x : HostCtx) : (s.setContext g x).irq = s.irq := rfl
@[simp] theorem State.setContext_fb (s : State) (g : Giver) (x : HostCtx) : (s.setContext g x).fb = s.fb := rfl
@[simp] theorem State.setContext_wbuf (s : State) (g : Giver) (x : HostCtx) : (s.setContext g x).wbuf = s.wbuf := rfl
@[simp] theorem State.setContext_rbuf (s : State) (g : Giver) (x : HostCtx) : (s.setContext g x).rbuf = s.rbuf := rfl
@[simp] theorem State.setContext_wire (s : State) (g : Giver) (x : HostCtx) : (s.setContext g x).wire = s.wire := rfl
@[simp] theorem State.setContext_rsp (s : State) (g : Giver) (x : HostCtx) : (s.setContext g x).rsp = s.rsp := rfl
@[simp] theorem State.setContext_ctx (s : State) (g : Giver) (x : HostCtx) : (s.setContext g x).ctx = s.ctx.set g x := rfl
@[simp] theorem State.setContext_env (s : State) (g : Giver) (x : HostCtx) : (s.setContext g x).env = s.env := rfl
@[simp] theorem State.setContext_par (s : State) (g : Giver) (x : HostCtx) : (s.setContext g x).par = s.par := rfl

/-! ### `holdGiver` -/

@[simp] theorem State.holdGiver_bte (s : State) : (s.holdGiver).bte = s.bte := rfl
@[simp] theorem State.holdGiver_biu (s : State) : (s.holdGiver).biu = s.biu := rfl
@[simp] theorem State.holdGiver_drs (s : State) : (s.holdGiver).drs = s.drs := rfl
@[simp] theorem State.holdGiver_stk (s : State) : (s.holdGiver).stk = s.stk := rfl
@[simp] theorem State.holdGiver_irq (s : State) : (s.holdGiver).irq = s.irq := rfl
@[simp] theorem State.holdGiver_fb (s : State) : (s.holdGiver).fb = s.fb := rfl
@[simp] theorem State.holdGiver_wbuf (s : State) : (s.holdGiver).wbuf = s.wbuf := rfl
@[simp] theorem State.holdGiver_rbuf (s : State) : (s.holdGiver).rbuf = s.rbuf := rfl
@[simp] theorem State.holdGiver_wire (s : State) : (s.holdGiver).wire = s.wire := rfl
@[simp] theorem State.holdGiver_rsp (s : State) : (s.holdGiver).rsp = s.rsp := rfl
@[simp] theorem State.holdGiver_ctx (s : State) :
    (s.holdGiver).ctx = s.ctx.set s.ctx.giver { s.ctx.get s.ctx.giver with awaiting := true } := rfl
@[simp] theorem State.holdGiver_env (s : State) : (s.holdGiver).env = s.env := rfl
@[simp] theorem State.holdGiver_par (s : State) : (s.holdGiver).par = s.par := rfl

/-! ### `releaseGivers` -/

@[simp] theorem State.releaseGivers_bte (s : State) : (s.releaseGivers).bte = s.bte := rfl
@[simp] theorem State.releaseGivers_biu (s : State) : (s.releaseGivers).biu = s.biu := rfl
@[simp] theorem State.releaseGivers_drs (s : State) : (s.releaseGivers).drs = s.drs := rfl
@[simp] theorem State.releaseGivers_stk (s : State) : (s.releaseGivers).stk = s.stk := rfl
@[simp] theorem State.releaseGivers_irq (s : State) : (s.releaseGivers).irq = s.irq := rfl
@[simp] theorem State.releaseGivers_fb (s : State) : (s.releaseGivers).fb = s.fb := rfl
@[simp] theorem State.releaseGivers_wbuf (s : State) : (s.releaseGivers).wbuf = s.wbuf := rfl
@[simp] theorem State.releaseGivers_rbuf (s : State) : (s.releaseGivers).rbuf = s.rbuf := rfl
@[simp] theorem State.releaseGivers_wire (s : State) : (s.releaseGivers).wire = s.wire := rfl
@[simp] theorem State.releaseGivers_rsp (s : State) : (s.releaseGivers).rsp = s.rsp := rfl
@[simp] theorem State.releaseGivers_ctx (s : State) :
    (s.releaseGivers).ctx = { s.ctx with main := { s.ctx.main with awaiting := false }, edge := { s.ctx.edge with awaiting := false } } := rfl
@[simp] theorem State.releaseGivers_env (s : State) : (s.releaseGivers).env = s.env := rfl
@[simp] theorem State.releaseGivers_par (s : State) : (s.releaseGivers).par = s.par := rfl

/-! ### `respond` -/

@[simp] theorem State.respond_bte (s : State) (v : Byte) : (s.respond v).bte = s.bte := rfl
@[simp] theorem State.respond_biu (s : State) (v : Byte) : (s.respond v).biu = s.biu := rfl
@[simp] theorem State.respond_drs (s : State) (v : Byte) : (s.respond v).drs = s.drs := rfl
@[simp] theorem State.respond_stk (s : State) (v : Byte) : (s.respond v).stk = s.stk := rfl
@[simp] theorem State.respond_irq (s : State) (v : Byte) : (s.respond v).irq = s.irq := rfl
@[simp] theorem State.respond_fb (s : State) (v : Byte) : (s.respond v).fb = s.fb := rfl
@[simp] theorem State.respond_wbuf (s : State) (v : Byte) : (s.respond v).wbuf = s.wbuf := rfl
@[simp] theorem State.respond_rbuf (s : State) (v : Byte) : (s.respond v).rbuf = s.rbuf := rfl
@[simp] theorem State.respond_wire (s : State) (v : Byte) : (s.respond v).wire = s.wire := rfl
@[simp] theorem State.respond_rsp (s : State) (v : Byte) : (s.respond v).rsp = v := rfl
@[simp] theorem State.respond_ctx (s : State) (v : Byte) :
    (s.respond v).ctx = s.ctx.set s.ctx.giver { s.ctx.get s.ctx.giver with resp := v } := rfl
@[simp] theorem State.respond_env (s : State) (v : Byte) : (s.respond v).env = s.env := rfl
@[simp] theorem State.respond_par (s : State) (v : Byte) : (s.respond v).par = s.par := rfl

/-! ### `aStart` -/

@[simp] theorem State.aStart_bte (s : State) : (s.aStart).bte = s.bte := rfl
@[simp] theorem State.aStart_biu (s : State) : (s.aStart).biu = { s.biu with startreq := true } := rfl
@[simp] theorem State.aStart_drs (s : State) : (s.aStart).drs = s.drs := rfl
@[simp] theorem State.aStart_stk (s : State) : (s.aStart).stk = s.stk := rfl
@[simp] theorem State.aStart_irq (s : State) : (s.aStart).irq = s.irq := rfl
@[simp] theorem State.aStart_fb (s : State) : (s.aStart).fb = s.fb := rfl
@[simp] theorem State.aStart_wbuf (s : State) : (s.aStart).wbuf = s.wbuf := rfl
@[simp] theorem State.aStart_rbuf (s : State) : (s.aStart).rbuf = s.rbuf := rfl
@[simp] theorem State.aStart_wire (s : State) : (s.aStart).wire = s.wire := rfl
@[simp] theorem State.aStart_rsp (s : State) : (s.aStart).rsp = s.rsp := rfl
@[simp] theorem State.aStart_ctx (s : State) : (s.aStart).ctx = s.ctx := rfl
@[simp] theorem State.aStart_env (s : State) : (s.aStart).env = s.env := rfl
@[simp] theorem State.aStart_par (s : State) : (s.aStart).par = s.par := rfl

/-! ### `aAck` -/

@[simp] theorem State.aAck_bte (s : State) (b : Bool) : (s.aAck b).bte = s.bte := rfl
@[simp] theorem State.aAck_biu (s : State) (b : Bool) : (s.aAck b).biu = { s.biu with acken := b } := rfl
@[simp] theorem State.aAck_drs (s : State) (b : Bool) : (s.aAck b).drs = s.drs := rfl
@[simp] theorem State.aAck_stk (s : State) (b : Bool) : (s.aAck b).stk = s.stk := rfl
@[simp] theorem State.aAck_irq (s : State) (b : Bool) : (s.aAck b).irq = s.irq := rfl
@[simp] theorem State.aAck_fb (s : State) (b : Bool) : (s.aAck b).fb = s.fb := rfl
@[simp] theorem State.aAck_wbuf (s : State) (b : Bool) : (s.aAck b).wbuf = s.wbuf := rfl
@[simp] theorem State.aAck_rbuf (s : State) (b : Bool) : (s.aAck b).rbuf = s.rbuf := rfl
@[simp] theorem State.aAck_wire (s : State) (b : Bool) : (s.aAck b).wire = s.wire := rfl
@[simp] theorem State.aAck_rsp (s : State) (b : Bool) : (s.aAck b).rsp = s.rsp := rfl
@[simp] theorem State.aAck_ctx (s : State) (b : Bool) : (s.aAck b).ctx = s.ctx := rfl
@[simp] theorem State.aAck_env (s : State) (b : Bool) : (s.aAck b).env = s.env := rfl
@[simp] theorem State.aAck_par (s : State) (b : Bool) : (s.aAck b).par = s.par := rfl

/-! ### `mStop` -/

@[simp] theorem State.mStop_bte (s : State) : (s.mStop).bte = s.bte := rfl
@[simp] theorem State.mStop_biu (s : State) :
    (s.mStop).biu = { s.biu.flagsStop with mode := .idle, claim := false, stopreq := false } := rfl
@[simp] theorem State.mStop_drs (s : State) : (s.mStop).drs = s.drs := rfl
@[simp] theorem State.mStop_stk (s : State) : (s.mStop).stk = s.stk := rfl
@[simp] theorem State.mStop_irq (s : State) : (s.mStop).irq = s.irq := rfl
@[simp] theorem State.mStop_fb (s : State) : (s.mStop).fb = s.fb := rfl
@[simp] theorem State.mStop_wbuf (s : State) : (s.mStop).wbuf = s.wbuf := rfl
@[simp] theorem State.mStop_rbuf (s : State) : (s.mStop).rbuf = s.rbuf := rfl
@[simp] theorem State.mStop_wire (s : State) : (s.mStop).wire = s.wire ++ [.stop] := rfl
@[simp] theorem State.mStop_rsp (s : State) : (s.mStop).rsp = s.rsp := rfl
@[simp] theorem State.mStop_ctx (s : State) : (s.mStop).ctx = s.ctx := rfl
@[simp] theorem State.mStop_env (s : State) : (s.mStop).env = s.env := rfl
@[simp] theorem State.mStop_par (s : State) : (s.mStop).par = s.par := rfl

/-! ### `mStart` -/

@[simp] theorem State.mStart_bte (s : State) : (s.mStart).bte = s.bte := rfl
@[simp] theorem State.mStart_biu (s : State) :
    (s.mStart).biu = { s.biu.flagsStart with claim := true, startreq := false, mode := .started } := rfl
@[simp] theorem State.mStart_drs (s : State) : (s.mStart).drs = s.drs := rfl
@[simp] theorem State.mStart_stk (s : State) : (s.mStart).stk = s.stk := rfl
@[simp] theorem State.mStart_irq (s : State) : (s.mStart).irq = s.irq := rfl
@[simp] theorem State.mStart_fb (s : State) : (s.mStart).fb = s.fb := rfl
@[simp] theorem State.mStart_wbuf (s : State) : (s.mStart).wbuf = s.wbuf := rfl
@[simp] theorem State.mStart_rbuf (s : State) : (s.mStart).rbuf = s.rbuf := rfl
@[simp] theorem State.mStart_wire (s : State) : (s.mStart).wire = s.wire ++ [if s.biu.claim then .restart else .start] := rfl
@[simp] theorem State.mStart_rsp (s : State) : (s.mStart).rsp = s.rsp := rfl
@[simp] theorem State.mStart_ctx (s : State) : (s.mStart).ctx = s.ctx := rfl
@[simp] theorem State.mStart_env (s : State) : (s.mStart).env = s.env := rfl
@[simp] theorem State.mStart_par (s : State) : (s.mStart).par = s.par := rfl

/-! ### `mTxload` -/

@[simp] theorem State.mTxload_bte (s : State) : (s.mTxload).bte = s.bte := rfl
@[simp] theorem State.mTxload_biu (s : State) :
    (s.mTxload).biu = { s.biu.flagsTxload with sh := s.biu.dr, shf := true, drf := false } := rfl
@[simp] theorem State.mTxload_drs (s : State) : (s.mTxload).drs = s.drs := rfl
@[simp] theorem State.mTxload_stk (s : State) : (s.mTxload).stk = s.stk := rfl
@[simp] theorem State.mTxload_irq (s : State) : (s.mTxload).irq = s.irq := rfl
@[simp] theorem State.mTxload_fb (s : State) : (s.mTxload).fb = s.fb := rfl
@[simp] theorem State.mTxload_wbuf (s : State) : (s.mTxload).wbuf = s.wbuf := rfl
@[simp] theorem State.mTxload_rbuf (s : State) : (s.mTxload).rbuf = s.rbuf := rfl
@[simp] theorem State.mTxload_wire (s : State) : (s.mTxload).wire = s.wire := rfl
@[simp] theorem State.mTxload_rsp (s : State) : (s.mTxload).rsp = s.rsp := rfl
@[simp] theorem State.mTxload_ctx (s : State) : (s.mTxload).ctx = s.ctx := rfl
@[simp] theorem State.mTxload_env (s : State) : (s.mTxload).env = s.env := rfl
@[simp] theorem State.mTxload_par (s : State) : (s.mTxload).par = s.par := rfl

/-! ### `initEngine` -/

@[simp] theorem State.initEngine_bte (s : State) :
    (s.initEngine).bte = { s.bte with seq := Seq.idle, widx := 0#8, ridx := 0#8 } := rfl
@[simp] theorem State.initEngine_biu (s : State) :
    (s.initEngine).biu = { s.biu.clearFlags with mode := .idle, claim := false, drf := false, shf := false, ackl := false, acken := false, startreq := false, stopreq := false } := rfl
@[simp] theorem State.initEngine_drs (s : State) : (s.initEngine).drs = s.drs := rfl
@[simp] theorem State.initEngine_stk (s : State) : (s.initEngine).stk = s.stk := rfl
@[simp] theorem State.initEngine_irq (s : State) : (s.initEngine).irq = s.irq := rfl
@[simp] theorem State.initEngine_fb (s : State) : (s.initEngine).fb = s.fb := rfl
@[simp] theorem State.initEngine_wbuf (s : State) : (s.initEngine).wbuf = s.wbuf := rfl
@[simp] theorem State.initEngine_rbuf (s : State) : (s.initEngine).rbuf = s.rbuf := rfl
@[simp] theorem State.initEngine_wire (s : State) : (s.initEngine).wire = s.wire := rfl
@[simp] theorem State.initEngine_rsp (s : State) : (s.initEngine).rsp = s.rsp := rfl
@[simp] theorem State.initEngine_ctx (s : State) : (s.initEngine).ctx = s.ctx := rfl
@[simp] theorem State.initEngine_env (s : State) : (s.initEngine).env = s.env := rfl
@[simp] theorem State.initEngine_par (s : State) : (s.initEngine).par = s.par := rfl

/-! ### `countWritten` -/

@[simp] theorem State.countWritten_bte (s : State) : (s.countWritten).bte = { s.bte with widx := s.bte.widx + 1#8 } := rfl
@[simp] theorem State.countWritten_biu (s : State) : (s.countWritten).biu = s.biu := rfl
@[simp] theorem State.countWritten_drs (s : State) : (s.countWritten).drs = s.drs := rfl
@[simp] theorem State.countWritten_stk (s : State) : (s.countWritten).stk = s.stk := rfl
@[simp] theorem State.countWritten_irq (s : State) : (s.countWritten).irq = s.irq := rfl
@[simp] theorem State.countWritten_fb (s : State) : (s.countWritten).fb = s.fb := rfl
@[simp] theorem State.countWritten_wbuf (s : State) : (s.countWritten).wbuf = s.wbuf := rfl
@[simp] theorem State.countWritten_rbuf (s : State) : (s.countWritten).rbuf = s.rbuf := rfl
@[simp] theorem State.countWritten_wire (s : State) : (s.countWritten).wire = s.wire := rfl
@[simp] theorem State.countWritten_rsp (s : State) : (s.countWritten).rsp = s.rsp := rfl
@[simp] theorem State.countWritten_ctx (s : State) : (s.countWritten).ctx = s.ctx := rfl
@[simp] theorem State.countWritten_env (s : State) : (s.countWritten).env = s.env := rfl
@[simp] theorem State.countWritten_par (s : State) : (s.countWritten).par = s.par := rfl

/-! ### `countRead` -/

@[simp] theorem State.countRead_bte (s : State) : (s.countRead).bte = { s.bte with ridx := s.bte.ridx + 1#8 } := rfl
@[simp] theorem State.countRead_biu (s : State) : (s.countRead).biu = s.biu := rfl
@[simp] theorem State.countRead_drs (s : State) : (s.countRead).drs = s.drs := rfl
@[simp] theorem State.countRead_stk (s : State) : (s.countRead).stk = s.stk := rfl
@[simp] theorem State.countRead_irq (s : State) : (s.countRead).irq = s.irq := rfl
@[simp] theorem State.countRead_fb (s : State) : (s.countRead).fb = s.fb := rfl
@[simp] theorem State.countRead_wbuf (s : State) : (s.countRead).wbuf = s.wbuf := rfl
@[simp] theorem State.countRead_rbuf (s : State) : (s.countRead).rbuf = s.rbuf := rfl
@[simp] theorem State.countRead_wire (s : State) : (s.countRead).wire = s.wire := rfl
@[simp] theorem State.countRead_rsp (s : State) : (s.countRead).rsp = s.rsp := rfl
@[simp] theorem State.countRead_ctx (s : State) : (s.countRead).ctx = s.ctx := rfl
@[simp] theorem State.countRead_env (s : State) : (s.countRead).env = s.env := rfl
@[simp] theorem State.countRead_par (s : State) : (s.countRead).par = s.par := rfl

/-! ### `startStopwatch` -/

@[simp] theorem State.startStopwatch_bte (s : State) : (s.startStopwatch).bte = s.bte := rfl
@[simp] theorem State.startStopwatch_biu (s : State) : (s.startStopwatch).biu = s.biu := rfl
@[simp] theorem State.startStopwatch_drs (s : State) : (s.startStopwatch).drs = s.drs := rfl
@[simp] theorem State.startStopwatch_stk (s : State) :
    (s.startStopwatch).stk = { s.stk with ten := true, swState := .running } := rfl
@[simp] theorem State.startStopwatch_irq (s : State) : (s.startStopwatch).irq = s.irq := rfl
@[simp] theorem State.startStopwatch_fb (s : State) : (s.startStopwatch).fb = s.fb := rfl
@[simp] theorem State.startStopwatch_wbuf (s : State) : (s.startStopwatch).wbuf = s.wbuf := rfl
@[simp] theorem State.startStopwatch_rbuf (s : State) : (s.startStopwatch).rbuf = s.rbuf := rfl
@[simp] theorem State.startStopwatch_wire (s : State) : (s.startStopwatch).wire = s.wire := rfl
@[simp] theorem State.startStopwatch_rsp (s : State) : (s.startStopwatch).rsp = s.rsp := rfl
@[simp] theorem State.startStopwatch_ctx (s : State) : (s.startStopwatch).ctx = s.ctx := rfl
@[simp] theorem State.startStopwatch_env (s : State) : (s.startStopwatch).env = s.env := rfl
@[simp] theorem State.startStopwatch_par (s : State) : (s.startStopwatch).par = s.par := rfl

/-! ### `stopStopwatch` -/

@[simp] theorem State.stopStopwatch_bte (s : State) : (s.stopStopwatch).bte = s.bte := rfl
@[simp] theorem State.stopStopwatch_biu (s : State) : (s.stopStopwatch).biu = s.biu := rfl
@[simp] theorem State.stopStopwatch_drs (s : State) : (s.stopStopwatch).drs = s.drs := rfl
@[simp] theorem State.stopStopwatch_stk (s : State) :
    (s.stopStopwatch).stk = { s.stk with ten := false, tif := false, swState := .stopped } := rfl
@[simp] theorem State.stopStopwatch_irq (s : State) : (s.stopStopwatch).irq = s.irq := rfl
@[simp] theorem State.stopStopwatch_fb (s : State) : (s.stopStopwatch).fb = s.fb := rfl
@[simp] theorem State.stopStopwatch_wbuf (s : State) : (s.stopStopwatch).wbuf = s.wbuf := rfl
@[simp] theorem State.stopStopwatch_rbuf (s : State) : (s.stopStopwatch).rbuf = s.rbuf := rfl
@[simp] theorem State.stopStopwatch_wire (s : State) : (s.stopStopwatch).wire = s.wire := rfl
@[simp] theorem State.stopStopwatch_rsp (s : State) : (s.stopStopwatch).rsp = s.rsp := rfl
@[simp] theorem State.stopStopwatch_ctx (s : State) : (s.stopStopwatch).ctx = s.ctx := rfl
@[simp] theorem State.stopStopwatch_env (s : State) : (s.stopStopwatch).env = s.env := rfl
@[simp] theorem State.stopStopwatch_par (s : State) : (s.stopStopwatch).par = s.par := rfl

/-! ### `raiseTick` -/

@[simp] theorem State.raiseTick_bte (s : State) : (s.raiseTick).bte = s.bte := rfl
@[simp] theorem State.raiseTick_biu (s : State) : (s.raiseTick).biu = s.biu := rfl
@[simp] theorem State.raiseTick_drs (s : State) : (s.raiseTick).drs = s.drs := rfl
@[simp] theorem State.raiseTick_stk (s : State) : (s.raiseTick).stk = { s.stk with tif := true } := rfl
@[simp] theorem State.raiseTick_irq (s : State) : (s.raiseTick).irq = s.irq := rfl
@[simp] theorem State.raiseTick_fb (s : State) : (s.raiseTick).fb = s.fb := rfl
@[simp] theorem State.raiseTick_wbuf (s : State) : (s.raiseTick).wbuf = s.wbuf := rfl
@[simp] theorem State.raiseTick_rbuf (s : State) : (s.raiseTick).rbuf = s.rbuf := rfl
@[simp] theorem State.raiseTick_wire (s : State) : (s.raiseTick).wire = s.wire := rfl
@[simp] theorem State.raiseTick_rsp (s : State) : (s.raiseTick).rsp = s.rsp := rfl
@[simp] theorem State.raiseTick_ctx (s : State) : (s.raiseTick).ctx = s.ctx := rfl
@[simp] theorem State.raiseTick_env (s : State) : (s.raiseTick).env = s.env := rfl
@[simp] theorem State.raiseTick_par (s : State) : (s.raiseTick).par = s.par := rfl

/-! ### `raiseEdge` -/

@[simp] theorem State.raiseEdge_bte (s : State) : (s.raiseEdge).bte = s.bte := rfl
@[simp] theorem State.raiseEdge_biu (s : State) : (s.raiseEdge).biu = s.biu := rfl
@[simp] theorem State.raiseEdge_drs (s : State) : (s.raiseEdge).drs = s.drs := rfl
@[simp] theorem State.raiseEdge_stk (s : State) : (s.raiseEdge).stk = s.stk := rfl
@[simp] theorem State.raiseEdge_irq (s : State) : (s.raiseEdge).irq = { s.irq with eif := true } := rfl
@[simp] theorem State.raiseEdge_fb (s : State) : (s.raiseEdge).fb = s.fb := rfl
@[simp] theorem State.raiseEdge_wbuf (s : State) : (s.raiseEdge).wbuf = s.wbuf := rfl
@[simp] theorem State.raiseEdge_rbuf (s : State) : (s.raiseEdge).rbuf = s.rbuf := rfl
@[simp] theorem State.raiseEdge_wire (s : State) : (s.raiseEdge).wire = s.wire := rfl
@[simp] theorem State.raiseEdge_rsp (s : State) : (s.raiseEdge).rsp = s.rsp := rfl
@[simp] theorem State.raiseEdge_ctx (s : State) : (s.raiseEdge).ctx = s.ctx := rfl
@[simp] theorem State.raiseEdge_env (s : State) : (s.raiseEdge).env = s.env := rfl
@[simp] theorem State.raiseEdge_par (s : State) : (s.raiseEdge).par = s.par := rfl

/-! ### `popOp` -/

@[simp] theorem State.popOp_bte (s : State) (g : Giver) : (s.popOp g).bte = s.bte := rfl
@[simp] theorem State.popOp_biu (s : State) (g : Giver) : (s.popOp g).biu = s.biu := rfl
@[simp] theorem State.popOp_drs (s : State) (g : Giver) : (s.popOp g).drs = s.drs := rfl
@[simp] theorem State.popOp_stk (s : State) (g : Giver) : (s.popOp g).stk = s.stk := rfl
@[simp] theorem State.popOp_irq (s : State) (g : Giver) : (s.popOp g).irq = s.irq := rfl
@[simp] theorem State.popOp_fb (s : State) (g : Giver) : (s.popOp g).fb = s.fb := rfl
@[simp] theorem State.popOp_wbuf (s : State) (g : Giver) : (s.popOp g).wbuf = s.wbuf := rfl
@[simp] theorem State.popOp_rbuf (s : State) (g : Giver) : (s.popOp g).rbuf = s.rbuf := rfl
@[simp] theorem State.popOp_wire (s : State) (g : Giver) : (s.popOp g).wire = s.wire := rfl
@[simp] theorem State.popOp_rsp (s : State) (g : Giver) : (s.popOp g).rsp = s.rsp := rfl
@[simp] theorem State.popOp_ctx (s : State) (g : Giver) :
    (s.popOp g).ctx = { s.ctx.set g { s.ctx.get g with prog := (s.ctx.get g).prog.drop 1 } with giver := g } := rfl
@[simp] theorem State.popOp_env (s : State) (g : Giver) : (s.popOp g).env = s.env := rfl
@[simp] theorem State.popOp_par (s : State) (g : Giver) : (s.popOp g).par = s.par := rfl

/-! ### `submitWord` -/

@[simp] theorem State.submitWord_bte (s : State) (w : Word) : (s.submitWord w).bte = s.bte := rfl
@[simp] theorem State.submitWord_biu (s : State) (w : Word) : (s.submitWord w).biu = s.biu := rfl
@[simp] theorem State.submitWord_drs (s : State) (w : Word) : (s.submitWord w).drs = s.drs := rfl
@[simp] theorem State.submitWord_stk (s : State) (w : Word) : (s.submitWord w).stk = s.stk := rfl
@[simp] theorem State.submitWord_irq (s : State) (w : Word) : (s.submitWord w).irq = s.irq := rfl
@[simp] theorem State.submitWord_fb (s : State) (w : Word) : (s.submitWord w).fb = s.fb := rfl
@[simp] theorem State.submitWord_wbuf (s : State) (w : Word) : (s.submitWord w).wbuf = s.wbuf := rfl
@[simp] theorem State.submitWord_rbuf (s : State) (w : Word) : (s.submitWord w).rbuf = s.rbuf := rfl
@[simp] theorem State.submitWord_wire (s : State) (w : Word) : (s.submitWord w).wire = s.wire := rfl
@[simp] theorem State.submitWord_rsp (s : State) (w : Word) : (s.submitWord w).rsp = s.rsp := rfl
@[simp] theorem State.submitWord_ctx (s : State) (w : Word) :
    (s.submitWord w).ctx = s.ctx.set .main { s.ctx.main with prog := s.ctx.main.prog ++ [.command w] } := rfl
@[simp] theorem State.submitWord_env (s : State) (w : Word) : (s.submitWord w).env = s.env := rfl
@[simp] theorem State.submitWord_par (s : State) (w : Word) : (s.submitWord w).par = s.par := rfl

/-! ### `dropTurn` -/

@[simp] theorem State.dropTurn_bte (s : State) : (s.dropTurn).bte = s.bte := rfl
@[simp] theorem State.dropTurn_biu (s : State) : (s.dropTurn).biu = s.biu := rfl
@[simp] theorem State.dropTurn_drs (s : State) : (s.dropTurn).drs = s.drs := rfl
@[simp] theorem State.dropTurn_stk (s : State) : (s.dropTurn).stk = s.stk := rfl
@[simp] theorem State.dropTurn_irq (s : State) : (s.dropTurn).irq = s.irq := rfl
@[simp] theorem State.dropTurn_fb (s : State) : (s.dropTurn).fb = s.fb := rfl
@[simp] theorem State.dropTurn_wbuf (s : State) : (s.dropTurn).wbuf = s.wbuf := rfl
@[simp] theorem State.dropTurn_rbuf (s : State) : (s.dropTurn).rbuf = s.rbuf := rfl
@[simp] theorem State.dropTurn_wire (s : State) : (s.dropTurn).wire = s.wire := rfl
@[simp] theorem State.dropTurn_rsp (s : State) : (s.dropTurn).rsp = s.rsp := rfl
@[simp] theorem State.dropTurn_ctx (s : State) : (s.dropTurn).ctx = s.ctx := rfl
@[simp] theorem State.dropTurn_env (s : State) : (s.dropTurn).env = { s.env with agenda := s.env.agenda.drop 1 } := rfl
@[simp] theorem State.dropTurn_par (s : State) : (s.dropTurn).par = s.par := rfl

end Sys2Proof.Machine
end

