-- ==== Sys2Proof/Laws/Ops.lean ====
section
/-! SUPPORT. What each shared operation can do, said once: the two outcomes of each conditional operation, the fields it leaves
alone, and the kinds of instruction each decoder answers. -/

namespace Sys2Proof.Machine

/-! ### Conditional operations: their cases -/

@[simp] theorem State.waitThen_set (s : State) (c : BitVec 5) : s.waitThen true c = s.setSeq c := rfl

@[simp] theorem State.waitThen_clear (s : State) (c : BitVec 5) : s.waitThen false c = s := rfl

theorem State.busy_iff (s : State) : s.busy = true ↔ s.bte.seq ≠ Seq.idle := by simp [State.busy]

theorem State.not_busy_iff (s : State) : s.busy = false ↔ s.bte.seq = Seq.idle := by simp [State.busy]

/-- A BTE command given while `BUSY` = 1 changes nothing. -/
theorem State.whenIdle_busy (s : State) (f : State → State) (h : s.bte.seq ≠ Seq.idle) : s.whenIdle f = s := by
  simp [State.whenIdle, State.busy, h]

/-- A BTE command given while `BUSY` = 0 takes effect. -/
theorem State.whenIdle_idle (s : State) (f : State → State) (h : s.bte.seq = Seq.idle) : s.whenIdle f = f s := by
  simp [State.whenIdle, State.busy, h]

/-- The eager stop is `M_STOP` or nothing. -/
theorem State.eagerStop_cases (s : State) :
    (s.biu.stopEnabled = true ∧ s.eagerStop = s.mStop) ∨ (s.biu.stopEnabled = false ∧ s.eagerStop = s) := by
  unfold State.eagerStop
  cases h : s.biu.stopEnabled
  · exact .inr ⟨rfl, by simp⟩
  · exact .inl ⟨rfl, by simp⟩

/-- `a_dr_write` into a free data register. -/
theorem State.aDrWrite_free (s : State) (v : Byte) (h : s.biu.drf = false) :
    s.aDrWrite v = { s with biu := { s.biu.flagsDrWrite with dr := v, drf := true } } := by
  simp [State.aDrWrite, h]

/-- `a_dr_read` of a received byte. -/
theorem State.aDrRead_full (s : State) (h : s.biu.rxne = true) :
    s.drReadValue = s.biu.dr ∧ s.aDrRead = { s with biu := { s.biu.flagsDrRead with drf := false } } := by
  simp [State.drReadValue, State.aDrRead, h]

/-- `putSlot` writes a slot or does nothing. -/
theorem State.putSlot_slot (s : State) (i : Nat) (b : Byte) (h : i < 4) : s.putSlot i b = s.writeByte .fb i b := by
  simp [State.putSlot, Space.size, h]

theorem State.putSlot_none (s : State) (i : Nat) (b : Byte) (h : 4 ≤ i) : s.putSlot i b = s := by
  have : ¬ i < 4 := by omega
  simp [State.putSlot, Space.size, this]

/-- Carrying on answers a next state exactly when the result is one. -/
theorem thenState_next (r : Result) (f : State → State) (t : State) :
    thenState r f = .next t ↔ ∃ u, r = .next u ∧ t = f u := by
  cases r <;> simp [thenState, eq_comm]

/-! ### Steps -/

/-- A listed turn is the turn of the step. -/
theorem step_of_turn (s : State) (t : Turn) (rest : List Turn) (h : s.env.agenda = t :: rest) :
    step s = takeTurn exec t s.dropTurn := by
  simp [step, stepWith, State.turnNow, h]

/-- With no turn listed the quiet schedule decides. -/
theorem step_of_quiet (s : State) (h : s.env.agenda = []) : step s = takeTurn exec s.quietTurn s.dropTurn := by
  simp [step, stepWith, State.turnNow, h]

/-- With no turn listed dropping a turn changes nothing. -/
theorem State.dropTurn_quiet (s : State) (h : s.env.agenda = []) : s.dropTurn = s := by
  obtain ⟨bte, biu, drs, stk, irq, fb, wbuf, rbuf, wire, rsp, ctx, ⟨agenda, acks, bytes, freeIx, boots⟩, par⟩ := s
  simp only at h
  subst h
  rfl

/-- A giver held by its transaction does nothing in its turn. -/
theorem hostTurn_awaiting (run : Instr → State → Result) (g : Giver) (s : State) (h : (s.context g).awaiting = true) :
    hostTurn run g s = .next s := by
  simp [hostTurn, h]

/-- A giver at a word gives it. -/
theorem hostTurn_word (run : Instr → State → Result) (g : Giver) (s : State) (w : Word) (ops : List HostOp)
    (h : (s.context g).awaiting = false) (hp : (s.context g).prog = .command w :: ops) :
    hostTurn run g s = giveWord run g w s := by
  simp [hostTurn, h, hp, hostOp]

/-! ### What the decoders answer -/

theorem decodeSeq_kind (c : BitVec 5) (i : Instr) (h : decodeSeq c = .ok i) : i.kind = .micro := by
  unfold decodeSeq at h
  split at h <;> first | (injection h with h; subst h; rfl) | cases h

theorem decodeZ_ok (w : Word) (i j : Instr) (h : decodeZ w i = .ok j) : j = i := by
  unfold decodeZ at h
  split at h
  · injection h with h; exact h.symm
  · cases h

theorem decodeCommand_kind (w : Word) (i : Instr) (h : decodeCommand w = .ok i) :
    i.kind = .bteCommand ∨ i.kind = .unitCommand := by
  unfold decodeCommand at h
  repeat' split at h
  all_goals first
    | (have := decodeZ_ok _ _ _ h; subst this; simp [Instr.kind])
    | (injection h with h; subst h; simp [Instr.kind])
    | cases h

theorem decodeEvent_kind (w : Word) (i : Instr) (h : decodeEvent w = .ok i) : i.kind = .event := by
  unfold decodeEvent at h
  repeat' split at h
  all_goals first | (injection h with h; subst h; rfl) | cases h

/-! ### Fields left alone -/

-- `writeByte`
@[simp] theorem State.writeByte_bte (s : State) (sp : Space) (i : Nat) (v : Byte) : (s.writeByte sp i v).bte = s.bte := by
  cases sp <;> rfl
@[simp] theorem State.writeByte_biu (s : State) (sp : Space) (i : Nat) (v : Byte) : (s.writeByte sp i v).biu = s.biu := by
  cases sp <;> rfl
@[simp] theorem State.writeByte_drs (s : State) (sp : Space) (i : Nat) (v : Byte) : (s.writeByte sp i v).drs = s.drs := by
  cases sp <;> rfl
@[simp] theorem State.writeByte_stk (s : State) (sp : Space) (i : Nat) (v : Byte) : (s.writeByte sp i v).stk = s.stk := by
  cases sp <;> rfl
@[simp] theorem State.writeByte_irq (s : State) (sp : Space) (i : Nat) (v : Byte) : (s.writeByte sp i v).irq = s.irq := by
  cases sp <;> rfl
@[simp] theorem State.writeByte_wire (s : State) (sp : Space) (i : Nat) (v : Byte) : (s.writeByte sp i v).wire = s.wire := by
  cases sp <;> rfl
@[simp] theorem State.writeByte_rsp (s : State) (sp : Space) (i : Nat) (v : Byte) : (s.writeByte sp i v).rsp = s.rsp := by
  cases sp <;> rfl
@[simp] theorem State.writeByte_ctx (s : State) (sp : Space) (i : Nat) (v : Byte) : (s.writeByte sp i v).ctx = s.ctx := by
  cases sp <;> rfl
@[simp] theorem State.writeByte_env (s : State) (sp : Space) (i : Nat) (v : Byte) : (s.writeByte sp i v).env = s.env := by
  cases sp <;> rfl
@[simp] theorem State.writeByte_par (s : State) (sp : Space) (i : Nat) (v : Byte) : (s.writeByte sp i v).par = s.par := by
  cases sp <;> rfl

@[simp] theorem State.writeByte_fb_fb (s : State) (i : Nat) (v : Byte) :
    (s.writeByte .fb i v).fb = Memory.write .fb s.fb i v := rfl
@[simp] theorem State.writeByte_wbuf_wbuf (s : State) (i : Nat) (v : Byte) :
    (s.writeByte .wbuf i v).wbuf = Memory.write .wbuf s.wbuf i v := rfl
@[simp] theorem State.writeByte_rbuf_rbuf (s : State) (i : Nat) (v : Byte) :
    (s.writeByte .rbuf i v).rbuf = Memory.write .rbuf s.rbuf i v := rfl
@[simp] theorem State.writeByte_fb_wbuf (s : State) (i : Nat) (v : Byte) : (s.writeByte .fb i v).wbuf = s.wbuf := rfl
@[simp] theorem State.writeByte_fb_rbuf (s : State) (i : Nat) (v : Byte) : (s.writeByte .fb i v).rbuf = s.rbuf := rfl
@[simp] theorem State.writeByte_wbuf_fb (s : State) (i : Nat) (v : Byte) : (s.writeByte .wbuf i v).fb = s.fb := rfl
@[simp] theorem State.writeByte_wbuf_rbuf (s : State) (i : Nat) (v : Byte) : (s.writeByte .wbuf i v).rbuf = s.rbuf := rfl
@[simp] theorem State.writeByte_rbuf_fb (s : State) (i : Nat) (v : Byte) : (s.writeByte .rbuf i v).fb = s.fb := rfl
@[simp] theorem State.writeByte_rbuf_wbuf (s : State) (i : Nat) (v : Byte) : (s.writeByte .rbuf i v).wbuf = s.wbuf := rfl

-- `putSlot`
@[simp] theorem State.putSlot_bte (s : State) (i : Nat) (b : Byte) : (s.putSlot i b).bte = s.bte := by
  unfold State.putSlot; split <;> rfl
@[simp] theorem State.putSlot_biu (s : State) (i : Nat) (b : Byte) : (s.putSlot i b).biu = s.biu := by
  unfold State.putSlot; split <;> rfl
@[simp] theorem State.putSlot_drs (s : State) (i : Nat) (b : Byte) : (s.putSlot i b).drs = s.drs := by
  unfold State.putSlot; split <;> rfl
@[simp] theorem State.putSlot_stk (s : State) (i : Nat) (b : Byte) : (s.putSlot i b).stk = s.stk := by
  unfold State.putSlot; split <;> rfl
@[simp] theorem State.putSlot_irq (s : State) (i : Nat) (b : Byte) : (s.putSlot i b).irq = s.irq := by
  unfold State.putSlot; split <;> rfl
@[simp] theorem State.putSlot_wbuf (s : State) (i : Nat) (b : Byte) : (s.putSlot i b).wbuf = s.wbuf := by
  unfold State.putSlot; split <;> rfl
@[simp] theorem State.putSlot_rbuf (s : State) (i : Nat) (b : Byte) : (s.putSlot i b).rbuf = s.rbuf := by
  unfold State.putSlot; split <;> rfl
@[simp] theorem State.putSlot_wire (s : State) (i : Nat) (b : Byte) : (s.putSlot i b).wire = s.wire := by
  unfold State.putSlot; split <;> rfl
@[simp] theorem State.putSlot_rsp (s : State) (i : Nat) (b : Byte) : (s.putSlot i b).rsp = s.rsp := by
  unfold State.putSlot; split <;> rfl
@[simp] theorem State.putSlot_ctx (s : State) (i : Nat) (b : Byte) : (s.putSlot i b).ctx = s.ctx := by
  unfold State.putSlot; split <;> rfl
@[simp] theorem State.putSlot_env (s : State) (i : Nat) (b : Byte) : (s.putSlot i b).env = s.env := by
  unfold State.putSlot; split <;> rfl
@[simp] theorem State.putSlot_par (s : State) (i : Nat) (b : Byte) : (s.putSlot i b).par = s.par := by
  unfold State.putSlot; split <;> rfl

-- `putSlots`
@[simp] theorem State.putSlots_bte (s : State) (d : Slots) : (s.putSlots d).bte = s.bte := by
  simp [State.putSlots]
@[simp] theorem State.putSlots_biu (s : State) (d : Slots) : (s.putSlots d).biu = s.biu := by
  simp [State.putSlots]
@[simp] theorem State.putSlots_drs (s : State) (d : Slots) : (s.putSlots d).drs = s.drs := by
  simp [State.putSlots]
@[simp] theorem State.putSlots_stk (s : State) (d : Slots) : (s.putSlots d).stk = s.stk := by
  simp [State.putSlots]
@[simp] theorem State.putSlots_irq (s : State) (d : Slots) : (s.putSlots d).irq = s.irq := by
  simp [State.putSlots]
@[simp] theorem State.putSlots_wbuf (s : State) (d : Slots) : (s.putSlots d).wbuf = s.wbuf := by
  simp [State.putSlots]
@[simp] theorem State.putSlots_rbuf (s : State) (d : Slots) : (s.putSlots d).rbuf = s.rbuf := by
  simp [State.putSlots]
@[simp] theorem State.putSlots_wire (s : State) (d : Slots) : (s.putSlots d).wire = s.wire := by
  simp [State.putSlots]
@[simp] theorem State.putSlots_rsp (s : State) (d : Slots) : (s.putSlots d).rsp = s.rsp := by
  simp [State.putSlots]
@[simp] theorem State.putSlots_ctx (s : State) (d : Slots) : (s.putSlots d).ctx = s.ctx := by
  simp [State.putSlots]
@[simp] theorem State.putSlots_env (s : State) (d : Slots) : (s.putSlots d).env = s.env := by
  simp [State.putSlots]
@[simp] theorem State.putSlots_par (s : State) (d : Slots) : (s.putSlots d).par = s.par := by
  simp [State.putSlots]

-- `blankSlots`
@[simp] theorem State.blankSlots_bte (s : State) : (s.blankSlots).bte = s.bte := by
  rfl
@[simp] theorem State.blankSlots_biu (s : State) : (s.blankSlots).biu = s.biu := by
  rfl
@[simp] theorem State.blankSlots_drs (s : State) : (s.blankSlots).drs = s.drs := by
  rfl
@[simp] theorem State.blankSlots_stk (s : State) : (s.blankSlots).stk = s.stk := by
  rfl
@[simp] theorem State.blankSlots_irq (s : State) : (s.blankSlots).irq = s.irq := by
  rfl
@[simp] theorem State.blankSlots_wbuf (s : State) : (s.blankSlots).wbuf = s.wbuf := by
  rfl
@[simp] theorem State.blankSlots_rbuf (s : State) : (s.blankSlots).rbuf = s.rbuf := by
  rfl
@[simp] theorem State.blankSlots_wire (s : State) : (s.blankSlots).wire = s.wire := by
  rfl
@[simp] theorem State.blankSlots_rsp (s : State) : (s.blankSlots).rsp = s.rsp := by
  rfl
@[simp] theorem State.blankSlots_ctx (s : State) : (s.blankSlots).ctx = s.ctx := by
  rfl
@[simp] theorem State.blankSlots_env (s : State) : (s.blankSlots).env = s.env := by
  rfl
@[simp] theorem State.blankSlots_par (s : State) : (s.blankSlots).par = s.par := by
  rfl

-- `render`
@[simp] theorem State.render_bte (s : State) : (s.render).bte = s.bte := by
  simp [State.render]
@[simp] theorem State.render_biu (s : State) : (s.render).biu = s.biu := by
  simp [State.render]
@[simp] theorem State.render_drs (s : State) : (s.render).drs = s.drs := by
  simp [State.render]
@[simp] theorem State.render_stk (s : State) : (s.render).stk = s.stk := by
  simp [State.render]
@[simp] theorem State.render_irq (s : State) : (s.render).irq = s.irq := by
  simp [State.render]
@[simp] theorem State.render_wbuf (s : State) : (s.render).wbuf = s.wbuf := by
  simp [State.render]
@[simp] theorem State.render_rbuf (s : State) : (s.render).rbuf = s.rbuf := by
  simp [State.render]
@[simp] theorem State.render_wire (s : State) : (s.render).wire = s.wire := by
  simp [State.render]
@[simp] theorem State.render_rsp (s : State) : (s.render).rsp = s.rsp := by
  simp [State.render]
@[simp] theorem State.render_ctx (s : State) : (s.render).ctx = s.ctx := by
  simp [State.render]
@[simp] theorem State.render_env (s : State) : (s.render).env = s.env := by
  simp [State.render]
@[simp] theorem State.render_par (s : State) : (s.render).par = s.par := by
  simp [State.render]

/-! ### `countTick`, and what the tick handler can do -/

@[simp] theorem State.countTick_bte (s : State) : (s.countTick).bte = s.bte := by
  simp [State.countTick]
@[simp] theorem State.countTick_biu (s : State) : (s.countTick).biu = s.biu := by
  simp [State.countTick]
@[simp] theorem State.countTick_drs (s : State) : (s.countTick).drs = s.drs := by
  simp [State.countTick]
@[simp] theorem State.countTick_irq (s : State) : (s.countTick).irq = s.irq := by
  simp [State.countTick]
@[simp] theorem State.countTick_wbuf (s : State) : (s.countTick).wbuf = s.wbuf := by
  simp [State.countTick]
@[simp] theorem State.countTick_rbuf (s : State) : (s.countTick).rbuf = s.rbuf := by
  simp [State.countTick]
@[simp] theorem State.countTick_wire (s : State) : (s.countTick).wire = s.wire := by
  simp [State.countTick]
@[simp] theorem State.countTick_rsp (s : State) : (s.countTick).rsp = s.rsp := by
  simp [State.countTick]
@[simp] theorem State.countTick_ctx (s : State) : (s.countTick).ctx = s.ctx := by
  simp [State.countTick]
@[simp] theorem State.countTick_env (s : State) : (s.countTick).env = s.env := by
  simp [State.countTick]
@[simp] theorem State.countTick_par (s : State) : (s.countTick).par = s.par := by
  simp [State.countTick]
@[simp] theorem State.countTick_stk (s : State) :
    (s.countTick).stk = { s.stk with tif := false, counter := s.stk.counter + 1#32 } := by
  simp [State.countTick]

/-- A counter may be incremented exactly when it wraps or is below its limit. -/
theorem State.canCount_iff (s : State) :
    s.canCount = true ↔ s.par.overflow = .wraps ∨ s.stk.counter ≠ 0xFFFFFFFF#32 := by
  unfold State.canCount
  cases h : s.par.overflow <;> simp

/-- The tick handler answers a next state exactly when the counter may be incremented, and then the counted tick. -/
theorem execEvTick_next (s t : State) : execEvTick s = .next t ↔ s.canCount = true ∧ t = s.countTick := by
  cases h : s.canCount <;> simp [execEvTick, h, eq_comm]

/-- The tick handler stops only with its own fault. -/
theorem execEvTick_fault (s : State) (e : Fault) :
    execEvTick s = .fault e ↔ s.canCount = false ∧ e = .counterOverflow := by
  cases h : s.canCount <;> simp [execEvTick, h, eq_comm]

-- `clearStopwatch`
@[simp] theorem State.clearStopwatch_bte (s : State) : (s.clearStopwatch).bte = s.bte := by
  simp [State.clearStopwatch]
@[simp] theorem State.clearStopwatch_biu (s : State) : (s.clearStopwatch).biu = s.biu := by
  simp [State.clearStopwatch]
@[simp] theorem State.clearStopwatch_drs (s : State) : (s.clearStopwatch).drs = s.drs := by
  simp [State.clearStopwatch]
@[simp] theorem State.clearStopwatch_irq (s : State) : (s.clearStopwatch).irq = s.irq := by
  simp [State.clearStopwatch]
@[simp] theorem State.clearStopwatch_wbuf (s : State) : (s.clearStopwatch).wbuf = s.wbuf := by
  simp [State.clearStopwatch]
@[simp] theorem State.clearStopwatch_rbuf (s : State) : (s.clearStopwatch).rbuf = s.rbuf := by
  simp [State.clearStopwatch]
@[simp] theorem State.clearStopwatch_wire (s : State) : (s.clearStopwatch).wire = s.wire := by
  simp [State.clearStopwatch]
@[simp] theorem State.clearStopwatch_rsp (s : State) : (s.clearStopwatch).rsp = s.rsp := by
  simp [State.clearStopwatch]
@[simp] theorem State.clearStopwatch_ctx (s : State) : (s.clearStopwatch).ctx = s.ctx := by
  simp [State.clearStopwatch]
@[simp] theorem State.clearStopwatch_env (s : State) : (s.clearStopwatch).env = s.env := by
  simp [State.clearStopwatch]
@[simp] theorem State.clearStopwatch_par (s : State) : (s.clearStopwatch).par = s.par := by
  simp [State.clearStopwatch]

-- `initDisplay`
@[simp] theorem State.initDisplay_bte (s : State) : (s.initDisplay).bte = s.bte := by
  rfl
@[simp] theorem State.initDisplay_biu (s : State) : (s.initDisplay).biu = s.biu := by
  rfl
@[simp] theorem State.initDisplay_stk (s : State) : (s.initDisplay).stk = s.stk := by
  rfl
@[simp] theorem State.initDisplay_irq (s : State) : (s.initDisplay).irq = s.irq := by
  rfl
@[simp] theorem State.initDisplay_wbuf (s : State) : (s.initDisplay).wbuf = s.wbuf := by
  rfl
@[simp] theorem State.initDisplay_rbuf (s : State) : (s.initDisplay).rbuf = s.rbuf := by
  rfl
@[simp] theorem State.initDisplay_wire (s : State) : (s.initDisplay).wire = s.wire := by
  rfl
@[simp] theorem State.initDisplay_rsp (s : State) : (s.initDisplay).rsp = s.rsp := by
  rfl
@[simp] theorem State.initDisplay_ctx (s : State) : (s.initDisplay).ctx = s.ctx := by
  rfl
@[simp] theorem State.initDisplay_env (s : State) : (s.initDisplay).env = s.env := by
  rfl
@[simp] theorem State.initDisplay_par (s : State) : (s.initDisplay).par = s.par := by
  rfl

-- `ackAsked`
@[simp] theorem State.ackAsked_bte (s : State) : (s.ackAsked).bte = s.bte := by
  unfold State.ackAsked; split <;> rfl
@[simp] theorem State.ackAsked_biu (s : State) : (s.ackAsked).biu = s.biu := by
  unfold State.ackAsked; split <;> rfl
@[simp] theorem State.ackAsked_drs (s : State) : (s.ackAsked).drs = s.drs := by
  unfold State.ackAsked; split <;> rfl
@[simp] theorem State.ackAsked_stk (s : State) : (s.ackAsked).stk = s.stk := by
  unfold State.ackAsked; split <;> rfl
@[simp] theorem State.ackAsked_irq (s : State) : (s.ackAsked).irq = s.irq := by
  unfold State.ackAsked; split <;> rfl
@[simp] theorem State.ackAsked_fb (s : State) : (s.ackAsked).fb = s.fb := by
  unfold State.ackAsked; split <;> rfl
@[simp] theorem State.ackAsked_wbuf (s : State) : (s.ackAsked).wbuf = s.wbuf := by
  unfold State.ackAsked; split <;> rfl
@[simp] theorem State.ackAsked_rbuf (s : State) : (s.ackAsked).rbuf = s.rbuf := by
  unfold State.ackAsked; split <;> rfl
@[simp] theorem State.ackAsked_wire (s : State) : (s.ackAsked).wire = s.wire := by
  unfold State.ackAsked; split <;> rfl
@[simp] theorem State.ackAsked_rsp (s : State) : (s.ackAsked).rsp = s.rsp := by
  unfold State.ackAsked; split <;> rfl
@[simp] theorem State.ackAsked_ctx (s : State) : (s.ackAsked).ctx = s.ctx := by
  unfold State.ackAsked; split <;> rfl
@[simp] theorem State.ackAsked_par (s : State) : (s.ackAsked).par = s.par := by
  unfold State.ackAsked; split <;> rfl

-- `byteAsked`
@[simp] theorem State.byteAsked_bte (s : State) : (s.byteAsked).bte = s.bte := by
  unfold State.byteAsked; split <;> rfl
@[simp] theorem State.byteAsked_biu (s : State) : (s.byteAsked).biu = s.biu := by
  unfold State.byteAsked; split <;> rfl
@[simp] theorem State.byteAsked_drs (s : State) : (s.byteAsked).drs = s.drs := by
  unfold State.byteAsked; split <;> rfl
@[simp] theorem State.byteAsked_stk (s : State) : (s.byteAsked).stk = s.stk := by
  unfold State.byteAsked; split <;> rfl
@[simp] theorem State.byteAsked_irq (s : State) : (s.byteAsked).irq = s.irq := by
  unfold State.byteAsked; split <;> rfl
@[simp] theorem State.byteAsked_fb (s : State) : (s.byteAsked).fb = s.fb := by
  unfold State.byteAsked; split <;> rfl
@[simp] theorem State.byteAsked_wbuf (s : State) : (s.byteAsked).wbuf = s.wbuf := by
  unfold State.byteAsked; split <;> rfl
@[simp] theorem State.byteAsked_rbuf (s : State) : (s.byteAsked).rbuf = s.rbuf := by
  unfold State.byteAsked; split <;> rfl
@[simp] theorem State.byteAsked_wire (s : State) : (s.byteAsked).wire = s.wire := by
  unfold State.byteAsked; split <;> rfl
@[simp] theorem State.byteAsked_rsp (s : State) : (s.byteAsked).rsp = s.rsp := by
  unfold State.byteAsked; split <;> rfl
@[simp] theorem State.byteAsked_ctx (s : State) : (s.byteAsked).ctx = s.ctx := by
  unfold State.byteAsked; split <;> rfl
@[simp] theorem State.byteAsked_par (s : State) : (s.byteAsked).par = s.par := by
  unfold State.byteAsked; split <;> rfl

-- `waitThen`
@[simp] theorem State.waitThen_biu (s : State) (b : Bool) (c : BitVec 5) : (s.waitThen b c).biu = s.biu := by
  cases b <;> rfl
@[simp] theorem State.waitThen_drs (s : State) (b : Bool) (c : BitVec 5) : (s.waitThen b c).drs = s.drs := by
  cases b <;> rfl
@[simp] theorem State.waitThen_stk (s : State) (b : Bool) (c : BitVec 5) : (s.waitThen b c).stk = s.stk := by
  cases b <;> rfl
@[simp] theorem State.waitThen_irq (s : State) (b : Bool) (c : BitVec 5) : (s.waitThen b c).irq = s.irq := by
  cases b <;> rfl
@[simp] theorem State.waitThen_fb (s : State) (b : Bool) (c : BitVec 5) : (s.waitThen b c).fb = s.fb := by
  cases b <;> rfl
@[simp] theorem State.waitThen_wbuf (s : State) (b : Bool) (c : BitVec 5) : (s.waitThen b c).wbuf = s.wbuf := by
  cases b <;> rfl
@[simp] theorem State.waitThen_rbuf (s : State) (b : Bool) (c : BitVec 5) : (s.waitThen b c).rbuf = s.rbuf := by
  cases b <;> rfl
@[simp] theorem State.waitThen_wire (s : State) (b : Bool) (c : BitVec 5) : (s.waitThen b c).wire = s.wire := by
  cases b <;> rfl
@[simp] theorem State.waitThen_rsp (s : State) (b : Bool) (c : BitVec 5) : (s.waitThen b c).rsp = s.rsp := by
  cases b <;> rfl
@[simp] theorem State.waitThen_ctx (s : State) (b : Bool) (c : BitVec 5) : (s.waitThen b c).ctx = s.ctx := by
  cases b <;> rfl
@[simp] theorem State.waitThen_env (s : State) (b : Bool) (c : BitVec 5) : (s.waitThen b c).env = s.env := by
  cases b <;> rfl
@[simp] theorem State.waitThen_par (s : State) (b : Bool) (c : BitVec 5) : (s.waitThen b c).par = s.par := by
  cases b <;> rfl

-- `eagerStop`
@[simp] theorem State.eagerStop_bte (s : State) : (s.eagerStop).bte = s.bte := by
  unfold State.eagerStop; split <;> rfl
@[simp] theorem State.eagerStop_drs (s : State) : (s.eagerStop).drs = s.drs := by
  unfold State.eagerStop; split <;> rfl
@[simp] theorem State.eagerStop_stk (s : State) : (s.eagerStop).stk = s.stk := by
  unfold State.eagerStop; split <;> rfl
@[simp] theorem State.eagerStop_irq (s : State) : (s.eagerStop).irq = s.irq := by
  unfold State.eagerStop; split <;> rfl
@[simp] theorem State.eagerStop_fb (s : State) : (s.eagerStop).fb = s.fb := by
  unfold State.eagerStop; split <;> rfl
@[simp] theorem State.eagerStop_wbuf (s : State) : (s.eagerStop).wbuf = s.wbuf := by
  unfold State.eagerStop; split <;> rfl
@[simp] theorem State.eagerStop_rbuf (s : State) : (s.eagerStop).rbuf = s.rbuf := by
  unfold State.eagerStop; split <;> rfl
@[simp] theorem State.eagerStop_rsp (s : State) : (s.eagerStop).rsp = s.rsp := by
  unfold State.eagerStop; split <;> rfl
@[simp] theorem State.eagerStop_ctx (s : State) : (s.eagerStop).ctx = s.ctx := by
  unfold State.eagerStop; split <;> rfl
@[simp] theorem State.eagerStop_env (s : State) : (s.eagerStop).env = s.env := by
  unfold State.eagerStop; split <;> rfl
@[simp] theorem State.eagerStop_par (s : State) : (s.eagerStop).par = s.par := by
  unfold State.eagerStop; split <;> rfl

-- `aStop`
@[simp] theorem State.aStop_bte (s : State) : (s.aStop).bte = s.bte := by
  simp [State.aStop]
@[simp] theorem State.aStop_drs (s : State) : (s.aStop).drs = s.drs := by
  simp [State.aStop]
@[simp] theorem State.aStop_stk (s : State) : (s.aStop).stk = s.stk := by
  simp [State.aStop]
@[simp] theorem State.aStop_irq (s : State) : (s.aStop).irq = s.irq := by
  simp [State.aStop]
@[simp] theorem State.aStop_fb (s : State) : (s.aStop).fb = s.fb := by
  simp [State.aStop]
@[simp] theorem State.aStop_wbuf (s : State) : (s.aStop).wbuf = s.wbuf := by
  simp [State.aStop]
@[simp] theorem State.aStop_rbuf (s : State) : (s.aStop).rbuf = s.rbuf := by
  simp [State.aStop]
@[simp] theorem State.aStop_rsp (s : State) : (s.aStop).rsp = s.rsp := by
  simp [State.aStop]
@[simp] theorem State.aStop_ctx (s : State) : (s.aStop).ctx = s.ctx := by
  simp [State.aStop]
@[simp] theorem State.aStop_env (s : State) : (s.aStop).env = s.env := by
  simp [State.aStop]
@[simp] theorem State.aStop_par (s : State) : (s.aStop).par = s.par := by
  simp [State.aStop]

-- `aDrWrite`
@[simp] theorem State.aDrWrite_bte (s : State) (v : Byte) : (s.aDrWrite v).bte = s.bte := by
  unfold State.aDrWrite; split <;> rfl
@[simp] theorem State.aDrWrite_drs (s : State) (v : Byte) : (s.aDrWrite v).drs = s.drs := by
  unfold State.aDrWrite; split <;> rfl
@[simp] theorem State.aDrWrite_stk (s : State) (v : Byte) : (s.aDrWrite v).stk = s.stk := by
  unfold State.aDrWrite; split <;> rfl
@[simp] theorem State.aDrWrite_irq (s : State) (v : Byte) : (s.aDrWrite v).irq = s.irq := by
  unfold State.aDrWrite; split <;> rfl
@[simp] theorem State.aDrWrite_fb (s : State) (v : Byte) : (s.aDrWrite v).fb = s.fb := by
  unfold State.aDrWrite; split <;> rfl
@[simp] theorem State.aDrWrite_wbuf (s : State) (v : Byte) : (s.aDrWrite v).wbuf = s.wbuf := by
  unfold State.aDrWrite; split <;> rfl
@[simp] theorem State.aDrWrite_rbuf (s : State) (v : Byte) : (s.aDrWrite v).rbuf = s.rbuf := by
  unfold State.aDrWrite; split <;> rfl
@[simp] theorem State.aDrWrite_wire (s : State) (v : Byte) : (s.aDrWrite v).wire = s.wire := by
  unfold State.aDrWrite; split <;> rfl
@[simp] theorem State.aDrWrite_rsp (s : State) (v : Byte) : (s.aDrWrite v).rsp = s.rsp := by
  unfold State.aDrWrite; split <;> rfl
@[simp] theorem State.aDrWrite_ctx (s : State) (v : Byte) : (s.aDrWrite v).ctx = s.ctx := by
  unfold State.aDrWrite; split <;> rfl
@[simp] theorem State.aDrWrite_par (s : State) (v : Byte) : (s.aDrWrite v).par = s.par := by
  unfold State.aDrWrite; split <;> rfl

-- `aDrRead`
@[simp] theorem State.aDrRead_bte (s : State) : (s.aDrRead).bte = s.bte := by
  unfold State.aDrRead; split <;> rfl
@[simp] theorem State.aDrRead_drs (s : State) : (s.aDrRead).drs = s.drs := by
  unfold State.aDrRead; split <;> rfl
@[simp] theorem State.aDrRead_stk (s : State) : (s.aDrRead).stk = s.stk := by
  unfold State.aDrRead; split <;> rfl
@[simp] theorem State.aDrRead_irq (s : State) : (s.aDrRead).irq = s.irq := by
  unfold State.aDrRead; split <;> rfl
@[simp] theorem State.aDrRead_fb (s : State) : (s.aDrRead).fb = s.fb := by
  unfold State.aDrRead; split <;> rfl
@[simp] theorem State.aDrRead_wbuf (s : State) : (s.aDrRead).wbuf = s.wbuf := by
  unfold State.aDrRead; split <;> rfl
@[simp] theorem State.aDrRead_rbuf (s : State) : (s.aDrRead).rbuf = s.rbuf := by
  unfold State.aDrRead; split <;> rfl
@[simp] theorem State.aDrRead_wire (s : State) : (s.aDrRead).wire = s.wire := by
  unfold State.aDrRead; split <;> rfl
@[simp] theorem State.aDrRead_rsp (s : State) : (s.aDrRead).rsp = s.rsp := by
  unfold State.aDrRead; split <;> rfl
@[simp] theorem State.aDrRead_ctx (s : State) : (s.aDrRead).ctx = s.ctx := by
  unfold State.aDrRead; split <;> rfl
@[simp] theorem State.aDrRead_par (s : State) : (s.aDrRead).par = s.par := by
  unfold State.aDrRead; split <;> rfl

-- `aClrAddr`
@[simp] theorem State.aClrAddr_bte (s : State) : (s.aClrAddr).bte = s.bte := by
  unfold State.aClrAddr; split <;> rfl
@[simp] theorem State.aClrAddr_drs (s : State) : (s.aClrAddr).drs = s.drs := by
  unfold State.aClrAddr; split <;> rfl
@[simp] theorem State.aClrAddr_stk (s : State) : (s.aClrAddr).stk = s.stk := by
  unfold State.aClrAddr; split <;> rfl
@[simp] theorem State.aClrAddr_irq (s : State) : (s.aClrAddr).irq = s.irq := by
  unfold State.aClrAddr; split <;> rfl
@[simp] theorem State.aClrAddr_fb (s : State) : (s.aClrAddr).fb = s.fb := by
  unfold State.aClrAddr; split <;> rfl
@[simp] theorem State.aClrAddr_wbuf (s : State) : (s.aClrAddr).wbuf = s.wbuf := by
  unfold State.aClrAddr; split <;> rfl
@[simp] theorem State.aClrAddr_rbuf (s : State) : (s.aClrAddr).rbuf = s.rbuf := by
  unfold State.aClrAddr; split <;> rfl
@[simp] theorem State.aClrAddr_wire (s : State) : (s.aClrAddr).wire = s.wire := by
  unfold State.aClrAddr; split <;> rfl
@[simp] theorem State.aClrAddr_rsp (s : State) : (s.aClrAddr).rsp = s.rsp := by
  unfold State.aClrAddr; split <;> rfl
@[simp] theorem State.aClrAddr_ctx (s : State) : (s.aClrAddr).ctx = s.ctx := by
  unfold State.aClrAddr; split <;> rfl
@[simp] theorem State.aClrAddr_env (s : State) : (s.aClrAddr).env = s.env := by
  unfold State.aClrAddr; split <;> rfl
@[simp] theorem State.aClrAddr_par (s : State) : (s.aClrAddr).par = s.par := by
  unfold State.aClrAddr; split <;> rfl

-- `mAddr`
@[simp] theorem State.mAddr_bte (s : State) : (s.mAddr).bte = s.bte := by
  unfold State.mAddr; split <;> simp
@[simp] theorem State.mAddr_drs (s : State) : (s.mAddr).drs = s.drs := by
  unfold State.mAddr; split <;> simp
@[simp] theorem State.mAddr_stk (s : State) : (s.mAddr).stk = s.stk := by
  unfold State.mAddr; split <;> simp
@[simp] theorem State.mAddr_irq (s : State) : (s.mAddr).irq = s.irq := by
  unfold State.mAddr; split <;> simp
@[simp] theorem State.mAddr_fb (s : State) : (s.mAddr).fb = s.fb := by
  unfold State.mAddr; split <;> simp
@[simp] theorem State.mAddr_wbuf (s : State) : (s.mAddr).wbuf = s.wbuf := by
  unfold State.mAddr; split <;> simp
@[simp] theorem State.mAddr_rbuf (s : State) : (s.mAddr).rbuf = s.rbuf := by
  unfold State.mAddr; split <;> simp
@[simp] theorem State.mAddr_rsp (s : State) : (s.mAddr).rsp = s.rsp := by
  unfold State.mAddr; split <;> simp
@[simp] theorem State.mAddr_ctx (s : State) : (s.mAddr).ctx = s.ctx := by
  unfold State.mAddr; split <;> simp
@[simp] theorem State.mAddr_par (s : State) : (s.mAddr).par = s.par := by
  unfold State.mAddr; split <;> simp

-- `mTxbyte`
@[simp] theorem State.mTxbyte_bte (s : State) : (s.mTxbyte).bte = s.bte := by
  unfold State.mTxbyte; split <;> simp
@[simp] theorem State.mTxbyte_drs (s : State) : (s.mTxbyte).drs = s.drs := by
  unfold State.mTxbyte; split <;> simp
@[simp] theorem State.mTxbyte_stk (s : State) : (s.mTxbyte).stk = s.stk := by
  unfold State.mTxbyte; split <;> simp
@[simp] theorem State.mTxbyte_irq (s : State) : (s.mTxbyte).irq = s.irq := by
  unfold State.mTxbyte; split <;> simp
@[simp] theorem State.mTxbyte_fb (s : State) : (s.mTxbyte).fb = s.fb := by
  unfold State.mTxbyte; split <;> simp
@[simp] theorem State.mTxbyte_wbuf (s : State) : (s.mTxbyte).wbuf = s.wbuf := by
  unfold State.mTxbyte; split <;> simp
@[simp] theorem State.mTxbyte_rbuf (s : State) : (s.mTxbyte).rbuf = s.rbuf := by
  unfold State.mTxbyte; split <;> simp
@[simp] theorem State.mTxbyte_rsp (s : State) : (s.mTxbyte).rsp = s.rsp := by
  unfold State.mTxbyte; split <;> simp
@[simp] theorem State.mTxbyte_ctx (s : State) : (s.mTxbyte).ctx = s.ctx := by
  unfold State.mTxbyte; split <;> simp
@[simp] theorem State.mTxbyte_par (s : State) : (s.mTxbyte).par = s.par := by
  unfold State.mTxbyte; split <;> simp

-- `mRxbyte`
@[simp] theorem State.mRxbyte_bte (s : State) : (s.mRxbyte).bte = s.bte := by
  unfold State.mRxbyte; split <;> simp
@[simp] theorem State.mRxbyte_drs (s : State) : (s.mRxbyte).drs = s.drs := by
  unfold State.mRxbyte; split <;> simp
@[simp] theorem State.mRxbyte_stk (s : State) : (s.mRxbyte).stk = s.stk := by
  unfold State.mRxbyte; split <;> simp
@[simp] theorem State.mRxbyte_irq (s : State) : (s.mRxbyte).irq = s.irq := by
  unfold State.mRxbyte; split <;> simp
@[simp] theorem State.mRxbyte_fb (s : State) : (s.mRxbyte).fb = s.fb := by
  unfold State.mRxbyte; split <;> simp
@[simp] theorem State.mRxbyte_wbuf (s : State) : (s.mRxbyte).wbuf = s.wbuf := by
  unfold State.mRxbyte; split <;> simp
@[simp] theorem State.mRxbyte_rbuf (s : State) : (s.mRxbyte).rbuf = s.rbuf := by
  unfold State.mRxbyte; split <;> simp
@[simp] theorem State.mRxbyte_rsp (s : State) : (s.mRxbyte).rsp = s.rsp := by
  unfold State.mRxbyte; split <;> simp
@[simp] theorem State.mRxbyte_ctx (s : State) : (s.mRxbyte).ctx = s.ctx := by
  unfold State.mRxbyte; split <;> simp
@[simp] theorem State.mRxbyte_par (s : State) : (s.mRxbyte).par = s.par := by
  unfold State.mRxbyte; split <;> simp

-- `takeMove`
@[simp] theorem State.takeMove_bte (s : State) (m : Move) : (s.takeMove m).bte = s.bte := by
  cases m <;> simp [State.takeMove]
@[simp] theorem State.takeMove_drs (s : State) (m : Move) : (s.takeMove m).drs = s.drs := by
  cases m <;> simp [State.takeMove]
@[simp] theorem State.takeMove_stk (s : State) (m : Move) : (s.takeMove m).stk = s.stk := by
  cases m <;> simp [State.takeMove]
@[simp] theorem State.takeMove_irq (s : State) (m : Move) : (s.takeMove m).irq = s.irq := by
  cases m <;> simp [State.takeMove]
@[simp] theorem State.takeMove_fb (s : State) (m : Move) : (s.takeMove m).fb = s.fb := by
  cases m <;> simp [State.takeMove]
@[simp] theorem State.takeMove_wbuf (s : State) (m : Move) : (s.takeMove m).wbuf = s.wbuf := by
  cases m <;> simp [State.takeMove]
@[simp] theorem State.takeMove_rbuf (s : State) (m : Move) : (s.takeMove m).rbuf = s.rbuf := by
  cases m <;> simp [State.takeMove]
@[simp] theorem State.takeMove_rsp (s : State) (m : Move) : (s.takeMove m).rsp = s.rsp := by
  cases m <;> simp [State.takeMove]
@[simp] theorem State.takeMove_ctx (s : State) (m : Move) : (s.takeMove m).ctx = s.ctx := by
  cases m <;> simp [State.takeMove]
@[simp] theorem State.takeMove_par (s : State) (m : Move) : (s.takeMove m).par = s.par := by
  cases m <;> simp [State.takeMove]

-- `biuTurn`
@[simp] theorem State.biuTurn_bte (s : State) : (s.biuTurn).bte = s.bte := by
  unfold State.biuTurn; split <;> simp
@[simp] theorem State.biuTurn_drs (s : State) : (s.biuTurn).drs = s.drs := by
  unfold State.biuTurn; split <;> simp
@[simp] theorem State.biuTurn_stk (s : State) : (s.biuTurn).stk = s.stk := by
  unfold State.biuTurn; split <;> simp
@[simp] theorem State.biuTurn_irq (s : State) : (s.biuTurn).irq = s.irq := by
  unfold State.biuTurn; split <;> simp
@[simp] theorem State.biuTurn_fb (s : State) : (s.biuTurn).fb = s.fb := by
  unfold State.biuTurn; split <;> simp
@[simp] theorem State.biuTurn_wbuf (s : State) : (s.biuTurn).wbuf = s.wbuf := by
  unfold State.biuTurn; split <;> simp
@[simp] theorem State.biuTurn_rbuf (s : State) : (s.biuTurn).rbuf = s.rbuf := by
  unfold State.biuTurn; split <;> simp
@[simp] theorem State.biuTurn_rsp (s : State) : (s.biuTurn).rsp = s.rsp := by
  unfold State.biuTurn; split <;> simp
@[simp] theorem State.biuTurn_ctx (s : State) : (s.biuTurn).ctx = s.ctx := by
  unfold State.biuTurn; split <;> simp
@[simp] theorem State.biuTurn_par (s : State) : (s.biuTurn).par = s.par := by
  unfold State.biuTurn; split <;> simp

-- `beginTransaction`
@[simp] theorem State.beginTransaction_biu (s : State) (addr : BitVec 7) (m n : BitVec 8) : (s.beginTransaction addr m n).biu = s.biu := by
  rfl
@[simp] theorem State.beginTransaction_drs (s : State) (addr : BitVec 7) (m n : BitVec 8) : (s.beginTransaction addr m n).drs = s.drs := by
  rfl
@[simp] theorem State.beginTransaction_stk (s : State) (addr : BitVec 7) (m n : BitVec 8) : (s.beginTransaction addr m n).stk = s.stk := by
  rfl
@[simp] theorem State.beginTransaction_irq (s : State) (addr : BitVec 7) (m n : BitVec 8) : (s.beginTransaction addr m n).irq = s.irq := by
  rfl
@[simp] theorem State.beginTransaction_fb (s : State) (addr : BitVec 7) (m n : BitVec 8) : (s.beginTransaction addr m n).fb = s.fb := by
  rfl
@[simp] theorem State.beginTransaction_wbuf (s : State) (addr : BitVec 7) (m n : BitVec 8) : (s.beginTransaction addr m n).wbuf = s.wbuf := by
  rfl
@[simp] theorem State.beginTransaction_rbuf (s : State) (addr : BitVec 7) (m n : BitVec 8) : (s.beginTransaction addr m n).rbuf = s.rbuf := by
  rfl
@[simp] theorem State.beginTransaction_wire (s : State) (addr : BitVec 7) (m n : BitVec 8) : (s.beginTransaction addr m n).wire = s.wire := by
  rfl
@[simp] theorem State.beginTransaction_rsp (s : State) (addr : BitVec 7) (m n : BitVec 8) : (s.beginTransaction addr m n).rsp = s.rsp := by
  rfl
@[simp] theorem State.beginTransaction_env (s : State) (addr : BitVec 7) (m n : BitVec 8) : (s.beginTransaction addr m n).env = s.env := by
  rfl
@[simp] theorem State.beginTransaction_par (s : State) (addr : BitVec 7) (m n : BitVec 8) : (s.beginTransaction addr m n).par = s.par := by
  rfl

-- `stageEnd`
@[simp] theorem State.stageEnd_bte (s : State) : (s.stageEnd).bte = s.bte := by
  simp [State.stageEnd]
@[simp] theorem State.stageEnd_drs (s : State) : (s.stageEnd).drs = s.drs := by
  simp [State.stageEnd]
@[simp] theorem State.stageEnd_stk (s : State) : (s.stageEnd).stk = s.stk := by
  simp [State.stageEnd]
@[simp] theorem State.stageEnd_irq (s : State) : (s.stageEnd).irq = s.irq := by
  simp [State.stageEnd]
@[simp] theorem State.stageEnd_fb (s : State) : (s.stageEnd).fb = s.fb := by
  simp [State.stageEnd]
@[simp] theorem State.stageEnd_wbuf (s : State) : (s.stageEnd).wbuf = s.wbuf := by
  simp [State.stageEnd]
@[simp] theorem State.stageEnd_rbuf (s : State) : (s.stageEnd).rbuf = s.rbuf := by
  simp [State.stageEnd]
@[simp] theorem State.stageEnd_rsp (s : State) : (s.stageEnd).rsp = s.rsp := by
  simp [State.stageEnd]
@[simp] theorem State.stageEnd_ctx (s : State) : (s.stageEnd).ctx = s.ctx := by
  simp [State.stageEnd]
@[simp] theorem State.stageEnd_env (s : State) : (s.stageEnd).env = s.env := by
  simp [State.stageEnd]
@[simp] theorem State.stageEnd_par (s : State) : (s.stageEnd).par = s.par := by
  simp [State.stageEnd]

-- `raiseDisp`
@[simp] theorem State.raiseDisp_bte (s : State) (e : DispEvent) : (s.raiseDisp e).bte = s.bte := by
  cases e <;> rfl
@[simp] theorem State.raiseDisp_biu (s : State) (e : DispEvent) : (s.raiseDisp e).biu = s.biu := by
  cases e <;> rfl
@[simp] theorem State.raiseDisp_stk (s : State) (e : DispEvent) : (s.raiseDisp e).stk = s.stk := by
  cases e <;> rfl
@[simp] theorem State.raiseDisp_irq (s : State) (e : DispEvent) : (s.raiseDisp e).irq = s.irq := by
  cases e <;> rfl
@[simp] theorem State.raiseDisp_fb (s : State) (e : DispEvent) : (s.raiseDisp e).fb = s.fb := by
  cases e <;> rfl
@[simp] theorem State.raiseDisp_wbuf (s : State) (e : DispEvent) : (s.raiseDisp e).wbuf = s.wbuf := by
  cases e <;> rfl
@[simp] theorem State.raiseDisp_rbuf (s : State) (e : DispEvent) : (s.raiseDisp e).rbuf = s.rbuf := by
  cases e <;> rfl
@[simp] theorem State.raiseDisp_wire (s : State) (e : DispEvent) : (s.raiseDisp e).wire = s.wire := by
  cases e <;> rfl
@[simp] theorem State.raiseDisp_rsp (s : State) (e : DispEvent) : (s.raiseDisp e).rsp = s.rsp := by
  cases e <;> rfl
@[simp] theorem State.raiseDisp_ctx (s : State) (e : DispEvent) : (s.raiseDisp e).ctx = s.ctx := by
  cases e <;> rfl
@[simp] theorem State.raiseDisp_env (s : State) (e : DispEvent) : (s.raiseDisp e).env = s.env := by
  cases e <;> rfl
@[simp] theorem State.raiseDisp_par (s : State) (e : DispEvent) : (s.raiseDisp e).par = s.par := by
  cases e <;> rfl

-- `dispTimerTurn`
@[simp] theorem State.dispTimerTurn_bte (s : State) (e : DispEvent) : (s.dispTimerTurn e).bte = s.bte := by
  unfold State.dispTimerTurn; split <;> simp
@[simp] theorem State.dispTimerTurn_biu (s : State) (e : DispEvent) : (s.dispTimerTurn e).biu = s.biu := by
  unfold State.dispTimerTurn; split <;> simp
@[simp] theorem State.dispTimerTurn_stk (s : State) (e : DispEvent) : (s.dispTimerTurn e).stk = s.stk := by
  unfold State.dispTimerTurn; split <;> simp
@[simp] theorem State.dispTimerTurn_irq (s : State) (e : DispEvent) : (s.dispTimerTurn e).irq = s.irq := by
  unfold State.dispTimerTurn; split <;> simp
@[simp] theorem State.dispTimerTurn_fb (s : State) (e : DispEvent) : (s.dispTimerTurn e).fb = s.fb := by
  unfold State.dispTimerTurn; split <;> simp
@[simp] theorem State.dispTimerTurn_wbuf (s : State) (e : DispEvent) : (s.dispTimerTurn e).wbuf = s.wbuf := by
  unfold State.dispTimerTurn; split <;> simp
@[simp] theorem State.dispTimerTurn_rbuf (s : State) (e : DispEvent) : (s.dispTimerTurn e).rbuf = s.rbuf := by
  unfold State.dispTimerTurn; split <;> simp
@[simp] theorem State.dispTimerTurn_wire (s : State) (e : DispEvent) : (s.dispTimerTurn e).wire = s.wire := by
  unfold State.dispTimerTurn; split <;> simp
@[simp] theorem State.dispTimerTurn_rsp (s : State) (e : DispEvent) : (s.dispTimerTurn e).rsp = s.rsp := by
  unfold State.dispTimerTurn; split <;> simp
@[simp] theorem State.dispTimerTurn_ctx (s : State) (e : DispEvent) : (s.dispTimerTurn e).ctx = s.ctx := by
  unfold State.dispTimerTurn; split <;> simp
@[simp] theorem State.dispTimerTurn_env (s : State) (e : DispEvent) : (s.dispTimerTurn e).env = s.env := by
  unfold State.dispTimerTurn; split <;> simp
@[simp] theorem State.dispTimerTurn_par (s : State) (e : DispEvent) : (s.dispTimerTurn e).par = s.par := by
  unfold State.dispTimerTurn; split <;> simp

-- `tickTimerTurn`
@[simp] theorem State.tickTimerTurn_bte (s : State) : (s.tickTimerTurn).bte = s.bte := by
  unfold State.tickTimerTurn; split <;> simp
@[simp] theorem State.tickTimerTurn_biu (s : State) : (s.tickTimerTurn).biu = s.biu := by
  unfold State.tickTimerTurn; split <;> simp
@[simp] theorem State.tickTimerTurn_drs (s : State) : (s.tickTimerTurn).drs = s.drs := by
  unfold State.tickTimerTurn; split <;> simp
@[simp] theorem State.tickTimerTurn_irq (s : State) : (s.tickTimerTurn).irq = s.irq := by
  unfold State.tickTimerTurn; split <;> simp
@[simp] theorem State.tickTimerTurn_fb (s : State) : (s.tickTimerTurn).fb = s.fb := by
  unfold State.tickTimerTurn; split <;> simp
@[simp] theorem State.tickTimerTurn_wbuf (s : State) : (s.tickTimerTurn).wbuf = s.wbuf := by
  unfold State.tickTimerTurn; split <;> simp
@[simp] theorem State.tickTimerTurn_rbuf (s : State) : (s.tickTimerTurn).rbuf = s.rbuf := by
  unfold State.tickTimerTurn; split <;> simp
@[simp] theorem State.tickTimerTurn_wire (s : State) : (s.tickTimerTurn).wire = s.wire := by
  unfold State.tickTimerTurn; split <;> simp
@[simp] theorem State.tickTimerTurn_rsp (s : State) : (s.tickTimerTurn).rsp = s.rsp := by
  unfold State.tickTimerTurn; split <;> simp
@[simp] theorem State.tickTimerTurn_ctx (s : State) : (s.tickTimerTurn).ctx = s.ctx := by
  unfold State.tickTimerTurn; split <;> simp
@[simp] theorem State.tickTimerTurn_env (s : State) : (s.tickTimerTurn).env = s.env := by
  unfold State.tickTimerTurn; split <;> simp
@[simp] theorem State.tickTimerTurn_par (s : State) : (s.tickTimerTurn).par = s.par := by
  unfold State.tickTimerTurn; split <;> simp

end Sys2Proof.Machine
end

