-- ==== Sys2Proof/Laws/PerInstr.lean ====
section
/-! SUPPORT. The statements made per instruction. `EncodingCarriesTableBits`: the word or code the encoder writes for a well-formed
instruction has the fixed bits of its row of the opcode table (30_encoding.md R112, R113, R114). -/

namespace Sys2Proof.Laws.EncodingCarriesTableBits

/-- The encoding of `i` is one of its row's words, or its row's code. -/
def Statement (i : Instr) : Prop := i.wellFormed = true → i.tableRow.covers (encode i) = true

/-- Two words are equal when their 32 bits are. -/
theorem word_ext (v w : Word) (h : ∀ k : Fin 32, v.getLsbD k.val = w.getLsbD k.val) : v = w :=
  BitVec.eq_of_getLsbD_eq fun k hk => h ⟨k, hk⟩

/-- A byte that is at most 3 has its upper six bits clear. -/
theorem slot_bits (idx : BitVec 8) (h : idx.toNat ≤ 3) (k : Nat) (hk : 2 ≤ k) : idx.getLsbD k = false := by
  rw [BitVec.getLsbD, Nat.testBit_lt_two_pow]
  exact Nat.lt_of_le_of_lt h (Nat.lt_of_lt_of_le (by decide) (Nat.pow_le_pow_right (by decide) hk))

theorem bteInit : Statement .bteInit := fun _ => by decide

theorem bteTransact (addr : BitVec 7) (m n : BitVec 8) : Statement (.bteTransact addr m n) := by
  intro _
  refine decide_eq_true (word_ext _ _ fun k => ?_)
  rw [BitVec.getLsbD_and, encodeT_bit]
  fin_cases k <;> simp

theorem bteWput (idx : BitVec 8) (byte : Byte) : Statement (.bteWput idx byte) := by
  intro _
  refine decide_eq_true (word_ext _ _ fun k => ?_)
  rw [BitVec.getLsbD_and, encodeB_bit]
  fin_cases k <;> simp

theorem bteRget (idx : BitVec 8) : Statement (.bteRget idx) := by
  intro _
  refine decide_eq_true (word_ext _ _ fun k => ?_)
  rw [BitVec.getLsbD_and, encodeB_bit]
  fin_cases k <;> simp

theorem drsInit : Statement .drsInit := fun _ => by decide

theorem drsPut (idx : BitVec 8) (byte : Byte) : Statement (.drsPut idx byte) := by
  intro h
  have hi := slot_bits idx (by simpa [Instr.wellFormed] using h)
  have h2 := hi 2 (by decide)
  have h3 := hi 3 (by decide)
  have h4 := hi 4 (by decide)
  have h5 := hi 5 (by decide)
  have h6 := hi 6 (by decide)
  have h7 := hi 7 (by decide)
  simp only [BitVec.getLsbD_eq_getElem, Nat.reduceLT] at h2 h3 h4 h5 h6 h7
  refine decide_eq_true (word_ext _ _ fun k => ?_)
  rw [BitVec.getLsbD_and, encodeB_bit]
  fin_cases k <;> simp [h2, h3, h4, h5, h6, h7]

theorem stkInit : Statement .stkInit := fun _ => by decide

theorem stkTrigger : Statement .stkTrigger := fun _ => by decide

theorem evDispUpdate : Statement .evDispUpdate := fun _ => by decide

theorem evDispCompare : Statement .evDispCompare := fun _ => by decide

theorem evTick : Statement .evTick := fun _ => by decide

theorem evSensorEdge : Statement .evSensorEdge := fun _ => by decide

theorem idle : Statement .idle := fun _ => by decide

theorem wStart : Statement .wStart := fun _ => by decide

theorem wWaitSb : Statement .wWaitSb := fun _ => by decide

theorem wAddr : Statement .wAddr := fun _ => by decide

theorem wWaitAddr : Statement .wWaitAddr := fun _ => by decide

theorem wClrAddr : Statement .wClrAddr := fun _ => by decide

theorem wData : Statement .wData := fun _ => by decide

theorem wWaitTxe : Statement .wWaitTxe := fun _ => by decide

theorem wWaitBtf : Statement .wWaitBtf := fun _ => by decide

theorem wStop : Statement .wStop := fun _ => by decide

theorem rStart : Statement .rStart := fun _ => by decide

theorem rWaitSb : Statement .rWaitSb := fun _ => by decide

theorem rAddr : Statement .rAddr := fun _ => by decide

theorem rAckpol : Statement .rAckpol := fun _ => by decide

theorem rWaitAddr : Statement .rWaitAddr := fun _ => by decide

theorem rClrAddr : Statement .rClrAddr := fun _ => by decide

theorem rStage : Statement .rStage := fun _ => by decide

theorem rWaitRxne : Statement .rWaitRxne := fun _ => by decide

theorem rData : Statement .rData := fun _ => by decide

theorem done : Statement .done := fun _ => by decide

end Sys2Proof.Laws.EncodingCarriesTableBits
end

