-- ==== Sys2Proof/Machine/Asm.lean ====
section
/-! DEFINITION. The textual form of commands, events and micro-operations (30_encoding.md R125), numbers in decimal. -/

namespace Sys2Proof

/-- An unsigned operand in decimal. -/
def decimal {w : Nat} (v : BitVec w) : String := toString v.toNat

/-- The mnemonic of the opcode table (30_encoding.md R112, R113, R114). -/
def Instr.mnemonic : Instr → String
  | .bteInit => "BTE_INIT"
  | .bteTransact _ _ _ => "BTE_TRANSACT"
  | .bteWput _ _ => "BTE_WPUT"
  | .bteRget _ => "BTE_RGET"
  | .drsInit => "DRS_INIT"
  | .drsPut _ _ => "DRS_PUT"
  | .stkInit => "STK_INIT"
  | .stkTrigger => "STK_TRIGGER"
  | .evDispUpdate => "EV_DISP_UPDATE"
  | .evDispCompare => "EV_DISP_COMPARE"
  | .evTick => "EV_TICK"
  | .evSensorEdge => "EV_SENSOR_EDGE"
  | .idle => "IDLE"
  | .wStart => "W_START"
  | .wWaitSb => "W_WAIT_SB"
  | .wAddr => "W_ADDR"
  | .wWaitAddr => "W_WAIT_ADDR"
  | .wClrAddr => "W_CLR_ADDR"
  | .wData => "W_DATA"
  | .wWaitTxe => "W_WAIT_TXE"
  | .wWaitBtf => "W_WAIT_BTF"
  | .wStop => "W_STOP"
  | .rStart => "R_START"
  | .rWaitSb => "R_WAIT_SB"
  | .rAddr => "R_ADDR"
  | .rAckpol => "R_ACKPOL"
  | .rWaitAddr => "R_WAIT_ADDR"
  | .rClrAddr => "R_CLR_ADDR"
  | .rStage => "R_STAGE"
  | .rWaitRxne => "R_WAIT_RXNE"
  | .rData => "R_DATA"
  | .done => "DONE"

/-- The textual form: a command's mnemonic in lower case with a dot after the unit and its operands separated by commas; an
event's short name; a micro-operation's mnemonic (30_encoding.md R125). -/
def Instr.text : Instr → String
  | .bteInit => "bte.init"
  | .bteTransact addr m n => "bte.transact " ++ decimal addr ++ ", " ++ decimal m ++ ", " ++ decimal n
  | .bteWput idx byte => "bte.wput " ++ decimal idx ++ ", " ++ decimal byte
  | .bteRget idx => "bte.rget " ++ decimal idx
  | .drsInit => "drs.init"
  | .drsPut idx byte => "drs.put " ++ decimal idx ++ ", " ++ decimal byte
  | .stkInit => "stk.init"
  | .stkTrigger => "stk.trigger"
  | .evDispUpdate => "ev.update"
  | .evDispCompare => "ev.compare"
  | .evTick => "ev.tick"
  | .evSensorEdge => "ev.edge"
  | i => i.mnemonic

end Sys2Proof
end

