-- ==== Sys2Proof/Tests/Slice0.lean ====
section
/-! SUPPORT. The model's own tests: refused ill-formed terms, words written out from 30_encoding.md, single steps from the vectors of
95_test_vectors.md, and for every statement with hypotheses a concrete state that meets them. -/

namespace Sys2Proof.Tests

open Sys2Proof.Machine

/-! ### Helpers -/

/-- What `f` reads in the next state. -/
def after {α : Type} (r : Result) (f : State → α) : Option α :=
  match r with
  | .next t => some (f t)
  | .fault _ => none
  | .refused _ => none

/-- The reset state with this turn listed next. -/
def due (t : Turn) (s : State) : State := { s with env := { s.env with agenda := [t] } }

/-- A state whose main-line gives the word next. -/
def giving (w : Word) (s : State) : State :=
  due (.host .main) { s with ctx := { s.ctx with main := { prog := [.command w], awaiting := false, resp := 0#8 } } }

/-- A sensor with every constant given. -/
def sensor : Sensor :=
  { addr := 0x29#7, regFreshReset := 0x0016#16, regIntMode := 0x0014#16, regIntClear := 0x0015#16, regStart := 0x0018#16,
    modeLow := 0x01#8, modeHigh := 0x02#8, valIntClear := 0x07#8, valStartCont := 0x02#8,
    calTable := [(0x0207#16, 0x01#8)], order := .highFirst }

/-- The reset state with that sensor. -/
def base : State := { State.reset with par := { State.reset.par with sensor := sensor } }

/-- The engine in micro-operation `c` of `transact 0x29, m, n`. -/
def engine (c : BitVec 5) (m n : BitVec 8) : State :=
  { base with bte := { seq := c, devaddr := 0x29#7, wlen := m, rlen := n, widx := 0#8, ridx := 0#8 } }

/-- The BIU of `s` replaced. -/
def bus (s : State) (b : Biu) : State := { s with biu := b }

/-- The four slots. -/
def slots (s : State) : List (Option Byte) := (List.range 4).map (s.readByte .fb)

/-- `FB` = 1, 2, "3.", 4 (95_test_vectors.md W1). -/
def shown : Memory := [(0, 0x06#8), (1, 0x5B#8), (2, 0xCF#8), (3, 0x66#8)]

/-- A state with that frame buffer and this display unit. -/
def display (an : BitVec 4) (ca : BitVec 8) (k : BitVec 2) : State :=
  { base with
    fb := shown,
    drs := { digitIdx := k, an := an, ca := ca, den := true, uif := true, ccif := true, nextRaise := none } }

/-- A state with this stopwatch. -/
def stopwatch (w : SwState) (c : BitVec 32) (tif : Bool) : State :=
  { base with stk := { swState := w, counter := c, ten := decide (w = .running), tif := tif } }

/-! ### Well-formedness: the one check, and a term it refuses -/

theorem test_wellFormed_refuses_slot_4 : (Instr.drsPut 4#8 0#8).wellFormed = false := by decide
theorem test_wellFormed_refuses_slot_255 : (Instr.drsPut 255#8 0#8).wellFormed = false := by decide
theorem test_wellFormed_takes_slot_3 : (Instr.drsPut 3#8 0#8).wellFormed = true := by decide

/-! ### Words written out from 30_encoding.md R111 to R114 and 95_test_vectors.md 2.1 -/

theorem test_decode_bte_init : decodeCommand 0x01000000#32 = .ok .bteInit := by decide
theorem test_decode_bte_transact : decodeCommand 0x02290201#32 = .ok (.bteTransact 0x29#7 2#8 1#8) := by decide
theorem test_decode_bte_transact_largest : decodeCommand 0x027FFFFF#32 = .ok (.bteTransact 0x7F#7 255#8 255#8) := by decide
theorem test_decode_bte_wput : decodeCommand 0x0300014F#32 = .ok (.bteWput 1#8 0x4F#8) := by decide
theorem test_decode_bte_wput_last : decodeCommand 0x0300FFAA#32 = .ok (.bteWput 255#8 0xAA#8) := by decide
theorem test_decode_bte_rget : decodeCommand 0x04000300#32 = .ok (.bteRget 3#8) := by decide
theorem test_decode_drs_init : decodeCommand 0x10000000#32 = .ok .drsInit := by decide
theorem test_decode_drs_put : decodeCommand 0x110002BF#32 = .ok (.drsPut 2#8 0xBF#8) := by decide
theorem test_decode_stk_init : decodeCommand 0x20000000#32 = .ok .stkInit := by decide
theorem test_decode_stk_trigger : decodeCommand 0x21000000#32 = .ok .stkTrigger := by decide
theorem test_decode_ev_update : decodeEvent 0x80000000#32 = .ok .evDispUpdate := by decide
theorem test_decode_ev_compare : decodeEvent 0x81000000#32 = .ok .evDispCompare := by decide
theorem test_decode_ev_tick : decodeEvent 0x82000000#32 = .ok .evTick := by decide
theorem test_decode_ev_edge : decodeEvent 0x83000000#32 = .ok .evSensorEdge := by decide
theorem test_refuse_opcode_0 : decodeCommand 0x00000000#32 = .error (.unassignedOpcode 0x00#8) := by decide
theorem test_refuse_zero_field : decodeCommand 0x03FF00AA#32 = .error (.nonzeroZeroField 0x03#8) := by decide
theorem test_refuse_bit_23 : decodeCommand 0x02A90201#32 = .error (.nonzeroZeroField 0x02#8) := by decide
theorem test_refuse_rget_byte : decodeCommand 0x04000001#32 = .error (.rgetByteNonzero 1#8) := by decide
theorem test_refuse_slot_4 : decodeCommand 0x11000400#32 = .error (.drsPutIndex 4#8) := by decide
theorem test_refuse_trigger_bits : decodeCommand 0x21800000#32 = .error (.nonzeroZeroField 0x21#8) := by decide
theorem test_refuse_event_word : decodeCommand 0x80000000#32 = .error (.eventOnCommandPort 0x80#8) := by decide
theorem test_refuse_not_an_event : decodeEvent 0x80000001#32 = .error (.notAnEvent 0x80000001#32) := by decide
theorem test_refuse_seq_14 : decodeSeq 0x14#5 = .error (.reservedSeqCode 0x14#5) := by decide

theorem test_decode_codes :
    (List.range 20).map (fun c => (decodeTableWord 8 c).map Instr.mnemonic) =
      ["IDLE", "W_START", "W_WAIT_SB", "W_ADDR", "W_WAIT_ADDR", "W_CLR_ADDR", "W_DATA", "W_WAIT_TXE", "W_WAIT_BTF", "W_STOP",
       "R_START", "R_WAIT_SB", "R_ADDR", "R_ACKPOL", "R_WAIT_ADDR", "R_CLR_ADDR", "R_STAGE", "R_WAIT_RXNE", "R_DATA",
       "DONE"].map some := by decide

/-- 30_encoding.md R125. -/
theorem test_text : (Instr.bteTransact 0x29#7 2#8 1#8).text = "bte.transact 41, 2, 1" := by decide

/-! ### The host's two questions -/

theorem test_table_word_command : decodeTableWord 32 0x0300014F = some (.bteWput 1#8 0x4F#8) := by decide
theorem test_table_word_event : decodeTableWord 32 0x82000000 = some .evTick := by decide
theorem test_table_word_code : decodeTableWord 8 0x12 = some .rData := by decide

theorem test_first_after_reset_command :
    after (step (State.reset.withFetchWord 32 0x0300014F)) (fun t => t.readByte .wbuf 1) = some (some 0x4F#8) := by decide
theorem test_first_after_reset_event :
    after (step (State.reset.withFetchWord 32 0x82000000)) (fun t => (t.stk.counter, t.stk.tif, t.irq.insvc.tick)) =
      some (1#32, false, false) := by decide
theorem test_first_after_reset_code :
    after (step (State.reset.withFetchWord 8 0x01)) (fun t => (t.bte.seq, t.biu.startreq)) = some (0x02#5, true) := by decide

/-! ### Commands of the engine (95_test_vectors.md 2.5) -/

/-- K5: `WIDX`, `RIDX` to 0, `DEVADDR` and `WLEN` kept. -/
theorem test_bte_init :
    after (exec .bteInit { base with bte := { seq := 0#5, devaddr := 0x29#7, wlen := 2#8, rlen := 1#8, widx := 2#8, ridx := 1#8 } })
      (fun t => (t.bte.widx, t.bte.ridx, t.bte.devaddr, t.bte.wlen)) = some (0#8, 0#8, 0x29#7, 2#8) := by decide

/-- K1. -/
theorem test_bte_wput :
    after (exec (.bteWput 1#8 0x4F#8) base) (fun t => (t.readByte .wbuf 1, t.readByte .wbuf 0)) = some (some 0x4F#8, none) := by
  decide

/-- K4: held, the word stays with its giver. -/
theorem test_bte_wput_held :
    after (step (giving 0x0300014F#32 (engine 0x08#5 1#8 0#8))) (fun t => (t.readByte .wbuf 1, t.ctx.main.prog)) =
      some (none, [.command 0x0300014F#32]) := by decide

/-- K2. -/
theorem test_bte_rget :
    after (exec (.bteRget 0#8) { base with rbuf := [(0, 0x04#8)] }) (fun t => (t.rsp, t.ctx.main.resp)) =
      some (0x04#8, 0x04#8) := by decide

/-- V3, first step. -/
theorem test_bte_transact :
    after (exec (.bteTransact 0x29#7 2#8 1#8) base) (fun t => (t.bte.seq, t.bte.devaddr, t.bte.wlen, t.bte.rlen)) =
      some (0x01#5, 0x29#7, 2#8, 1#8) := by decide

/-- V4 and V8, first steps: no write phase, no phase at all. -/
theorem test_bte_transact_skips :
    after (exec (.bteTransact 0x29#7 0#8 1#8) base) (fun t => t.bte.seq) = some 0x0A#5 ∧
    after (exec (.bteTransact 0x29#7 0#8 0#8) base) (fun t => t.bte.seq) = some 0x13#5 := by decide

/-! ### Micro-operations (95_test_vectors.md 2.3, 2.4) -/

theorem test_idle : after (exec .idle base) (fun t => t.bte.seq) = some 0x00#5 := by decide
theorem test_w_start : after (exec .wStart (engine 0x01#5 2#8 1#8)) (fun t => (t.bte.seq, t.biu.startreq, t.biu.sb)) =
    some (0x02#5, true, false) := by decide
theorem test_w_wait_sb_holds : after (exec .wWaitSb (engine 0x02#5 2#8 1#8)) (fun t => t.bte.seq) = some 0x02#5 := by decide
theorem test_w_wait_sb : after (exec .wWaitSb (bus (engine 0x02#5 2#8 1#8) { base.biu with sb := true }))
    (fun t => (t.bte.seq, t.biu.sb)) = some (0x03#5, true) := by decide
/-- B1. -/
theorem test_w_addr : after (exec .wAddr (bus (engine 0x03#5 2#8 1#8) { base.biu with mode := .started, claim := true, sb := true }))
    (fun t => (t.bte.seq, t.biu.dr, t.biu.drf, t.biu.sb)) = some (0x04#5, 0x52#8, true, false) := by decide
theorem test_w_wait_addr : after (exec .wWaitAddr (bus (engine 0x04#5 2#8 1#8) { base.biu with addr := true }))
    (fun t => t.bte.seq) = some 0x05#5 := by decide
/-- B3. -/
theorem test_w_clr_addr : after (exec .wClrAddr (bus (engine 0x05#5 2#8 1#8) { base.biu with mode := .addrTx, addr := true }))
    (fun t => (t.bte.seq, t.biu.addr, t.biu.mode, t.biu.txe)) = some (0x06#5, false, .tx, true) := by decide
/-- B2 and V3 step 9. -/
theorem test_w_data : after (exec .wData { bus (engine 0x06#5 2#8 1#8) { base.biu with mode := .tx, txe := true, btf := true } with
      wbuf := [(0, 0x00#8), (1, 0x4F#8)] })
    (fun t => (t.bte.seq, t.bte.widx, t.biu.dr, t.biu.drf, t.biu.txe)) =
      some (0x07#5, 1#8, 0x00#8, true, false) := by decide
/-- V2: a single byte goes straight to the drain wait. -/
theorem test_w_data_single : after (exec .wData { engine 0x06#5 1#8 0#8 with wbuf := [(0, 0xAB#8)] })
    (fun t => (t.bte.seq, t.biu.dr)) = some (0x08#5, 0xAB#8) := by decide
theorem test_w_wait_txe : after (exec .wWaitTxe (bus (engine 0x07#5 2#8 1#8) { base.biu with txe := true }))
    (fun t => t.bte.seq) = some 0x06#5 := by decide
theorem test_w_wait_btf : after (exec .wWaitBtf (bus (engine 0x08#5 2#8 1#8) { base.biu with btf := true })) (fun t => t.bte.seq) =
    some 0x0A#5 ∧
    after (exec .wWaitBtf (bus (engine 0x08#5 2#8 0#8) { base.biu with btf := true })) (fun t => t.bte.seq) = some 0x09#5 := by
  decide
/-- B6. -/
theorem test_w_stop : after (exec .wStop (bus (engine 0x09#5 3#8 0#8)
      { base.biu with mode := .tx, claim := true, txe := true, btf := true }))
    (fun t => (t.bte.seq, t.wire, t.biu.mode, t.biu.stopreq, t.biu.btf)) =
      some (0x13#5, [.stop], .idle, false, false) := by decide
theorem test_r_start : after (exec .rStart (engine 0x0A#5 0#8 1#8)) (fun t => (t.bte.seq, t.biu.startreq)) =
    some (0x0B#5, true) := by decide
theorem test_r_wait_sb : after (exec .rWaitSb (bus (engine 0x0B#5 0#8 1#8) { base.biu with sb := true })) (fun t => t.bte.seq) =
    some 0x0C#5 := by decide
/-- V3 step 20. -/
theorem test_r_addr : after (exec .rAddr (bus (engine 0x0C#5 2#8 1#8) { base.biu with mode := .started, sb := true }))
    (fun t => (t.bte.seq, t.biu.dr, t.biu.drf, t.biu.sb)) = some (0x0D#5, 0x53#8, true, false) := by decide
theorem test_r_ackpol : after (exec .rAckpol (engine 0x0D#5 0#8 3#8)) (fun t => (t.bte.seq, t.biu.acken)) = some (0x0E#5, true) ∧
    after (exec .rAckpol (bus (engine 0x0D#5 0#8 1#8) { base.biu with acken := true })) (fun t => t.biu.acken) = some false := by
  decide
theorem test_r_wait_addr : after (exec .rWaitAddr (bus (engine 0x0E#5 0#8 1#8) { base.biu with addr := true }))
    (fun t => t.bte.seq) = some 0x0F#5 := by decide
/-- B4, B5. -/
theorem test_r_clr_addr : after (exec .rClrAddr (bus (engine 0x0F#5 0#8 3#8) { base.biu with mode := .addrRx, addr := true, acken := true }))
    (fun t => (t.bte.seq, t.biu.addr, t.biu.mode, t.biu.ackl)) = some (0x10#5, false, .rx, true) ∧
    after (exec .rClrAddr (bus (engine 0x0F#5 0#8 1#8) { base.biu with mode := .addrRx, addr := true, ackl := true }))
      (fun t => (t.biu.mode, t.biu.ackl)) = some (.rx, false) := by decide
/-- B7 and V3 step 25: n = 1 stages at index 0, the request stays pending. -/
theorem test_r_stage : after (exec .rStage (bus (engine 0x10#5 2#8 1#8) { base.biu with mode := .rx, claim := true }))
    (fun t => (t.bte.seq, t.biu.acken, t.biu.stopreq, t.wire)) = some (0x11#5, false, true, []) := by decide
/-- Three bytes, index 0: no staging. -/
theorem test_r_stage_not_yet : after (exec .rStage (bus (engine 0x10#5 0#8 3#8) { base.biu with mode := .rx, acken := true }))
    (fun t => (t.biu.acken, t.biu.stopreq)) = some (true, false) := by decide
theorem test_r_wait_rxne : after (exec .rWaitRxne (bus (engine 0x11#5 0#8 1#8) { base.biu with rxne := true })) (fun t => t.bte.seq) =
    some 0x12#5 := by decide
/-- B17 and V3 step 28. -/
theorem test_r_data : after (exec .rData (bus (engine 0x12#5 2#8 1#8) { base.biu with rxne := true, drf := true, dr := 0x04#8 }))
    (fun t => (t.bte.seq, t.bte.ridx, t.biu.rxne, t.biu.drf, t.readByte .rbuf 0)) =
      some (0x13#5, 1#8, false, false, some 0x04#8) := by decide
theorem test_r_data_more : after (exec .rData (bus (engine 0x12#5 0#8 3#8) { base.biu with rxne := true, drf := true, dr := 0x01#8 }))
    (fun t => t.bte.seq) = some 0x10#5 := by decide
theorem test_done : after (exec .done (engine 0x13#5 2#8 1#8)) (fun t => (t.bte.seq, t.bte.wlen)) = some (0x00#5, 2#8) := by decide

/-! ### Moves of the BIU (95_test_vectors.md 2.4) -/

/-- B8, B9. -/
theorem test_m_start : after (step (due .biu (bus (engine 0x02#5 2#8 1#8) { base.biu with startreq := true })))
    (fun t => (t.wire, t.biu.mode, t.biu.claim, t.biu.sb, t.biu.startreq)) = some ([.start], .started, true, true, false) ∧
    after (step (due .biu (bus (engine 0x0B#5 2#8 1#8)
      { base.biu with mode := .tx, claim := true, startreq := true, btf := true, txe := true })))
    (fun t => (t.wire, t.biu.mode, t.biu.sb, t.biu.txe, t.biu.btf)) = some ([.restart], .started, true, false, false) := by decide
/-- B10, B11. -/
theorem test_m_addr :
    after (step { due .biu (bus (engine 0x0E#5 2#8 1#8) { base.biu with mode := .started, dr := 0x53#8, drf := true }) with
      env := { base.env with agenda := [.biu], acks := [true] } })
    (fun t => (t.wire, t.biu.addr, t.biu.mode, t.biu.drf)) = some ([.address 0x53#8, .deviceAck], true, .addrRx, false) ∧
    after (step { due .biu (bus (engine 0x04#5 2#8 1#8) { base.biu with mode := .started, dr := 0x52#8, drf := true }) with
      env := { base.env with agenda := [.biu], acks := [false] } })
    (fun t => (t.wire, t.biu.addr, t.biu.mode)) = some ([.address 0x52#8, .deviceNack], false, .fail) := by decide
theorem test_m_txload :
    after (step (due .biu (bus (engine 0x07#5 2#8 1#8) { base.biu with mode := .tx, dr := 0x4F#8, drf := true })))
    (fun t => (t.biu.sh, t.biu.shf, t.biu.drf, t.biu.txe)) = some (0x4F#8, true, false, true) := by decide
/-- B12, B13. -/
theorem test_m_txbyte :
    after (step { bus (engine 0x08#5 2#8 1#8) { base.biu with mode := .tx, sh := 0x4F#8, shf := true } with
      env := { base.env with agenda := [.biu], acks := [true] } })
    (fun t => (t.wire, t.biu.shf, t.biu.btf)) = some ([.dataOut 0x4F#8, .deviceAck], false, true) ∧
    after (step { bus (engine 0x08#5 2#8 1#8) { base.biu with mode := .tx, sh := 0x00#8, shf := true, drf := true } with
      env := { base.env with agenda := [.biu], acks := [true] } })
    (fun t => (t.wire, t.biu.shf, t.biu.btf)) = some ([.dataOut 0x00#8, .deviceAck], false, false) := by decide
/-- B14, B15. -/
theorem test_m_rxbyte :
    after (step { bus (engine 0x11#5 0#8 2#8) { base.biu with mode := .rx, ackl := true } with
      env := { base.env with agenda := [.biu], bytes := [0x12#8] } })
    (fun t => (t.wire, t.biu.dr, t.biu.rxne, t.biu.ackl, t.biu.mode)) =
      some ([.dataIn 0x12#8, .masterAck], 0x12#8, true, false, .rx) ∧
    after (step { bus (engine 0x11#5 0#8 2#8) { base.biu with mode := .rx, claim := true, stopreq := true } with
      env := { base.env with agenda := [.biu], bytes := [0x34#8] } })
    (fun t => (t.wire, t.biu.dr, t.biu.rxne, t.biu.mode, t.biu.stopreq)) =
      some ([.dataIn 0x34#8, .masterNack, .stop], 0x34#8, true, .idle, false) := by decide
/-- B16. -/
theorem test_m_rxbyte_waits :
    after (step (due .biu (bus (engine 0x11#5 0#8 2#8) { base.biu with mode := .rx, drf := true }))) (fun t => t.wire) =
      some [] := by decide

/-! ### Display (95_test_vectors.md 2.6) -/

/-- W5. -/
theorem test_drs_init : after (exec .drsInit (display 0xB#4 0x30#8 3#2)) (fun t => (slots t, t.drs)) =
    some (List.replicate 4 (some 0#8),
      { digitIdx := 0#2, an := 0xF#4, ca := 0xFF#8, den := true, uif := false, ccif := false, nextRaise := none }) := by decide
/-- W4. -/
theorem test_drs_put : after (exec (.drsPut 0#8 0x7F#8) (display 0xE#4 0xF9#8 1#2)) (fun t => (slots t, t.drs.an, t.drs.ca)) =
    some ([some 0x7F#8, some 0x5B#8, some 0xCF#8, some 0x66#8], 0xE#4, 0xF9#8) := by decide
/-- W1, second and third update. -/
theorem test_ev_update : after (exec .evDispUpdate (display 0xF#4 0xFF#8 1#2)) (fun t => (t.drs.an, t.drs.ca, t.drs.digitIdx)) =
    some (0xD#4, 0xA4#8, 2#2) ∧
    after (exec .evDispUpdate (display 0xF#4 0xFF#8 3#2)) (fun t => (t.drs.an, t.drs.ca, t.drs.digitIdx)) =
    some (0x7#4, 0x99#8, 0#2) := by decide
/-- W2: ghosting. -/
theorem test_ev_update_ghosts : after (exec .evDispUpdate (display 0xE#4 0xF9#8 1#2)) (fun t => (t.drs.an, t.drs.ca)) =
    some (0xC#4, 0xA0#8) := by decide
theorem test_ev_compare : after (exec .evDispCompare (display 0xD#4 0x99#8 2#2)) (fun t => (t.drs.an, t.drs.ca, t.drs.ccif)) =
    some (0xF#4, 0xFF#8, false) := by decide

/-! ### Stopwatch and render (95_test_vectors.md 2.7) -/

/-- T6. -/
theorem test_stk_init : after (exec .stkInit { display 0xD#4 0x99#8 2#2 with
      stk := { swState := .running, counter := 77#32, ten := true, tif := true } }) (fun t => (t.stk, slots t, t.drs.an)) =
    some ({ swState := .idle, counter := 0#32, ten := false, tif := false },
      [some 0x00#8, some 0x00#8, some 0xBF#8, some 0x3F#8], 0xF#4) := by decide
/-- T3 and T4. -/
theorem test_stk_trigger :
    after (exec .stkTrigger (stopwatch .idle 0#32 false)) (fun t => (t.stk.swState, t.stk.ten)) = some (.running, true) ∧
    after (exec .stkTrigger (stopwatch .running 12#32 true)) (fun t => t.stk) =
      some { swState := .stopped, counter := 12#32, ten := false, tif := false } := by decide
theorem test_stk_trigger_clears : after (exec .stkTrigger (stopwatch .stopped 12#32 false)) (fun t => (t.stk.counter, slots t)) =
    some (0#32, [some 0x00#8, some 0x00#8, some 0xBF#8, some 0x3F#8]) := by decide
/-- T2. -/
theorem test_ev_tick : after (exec .evTick (stopwatch .running 41#32 true)) (fun t => (t.stk.counter, t.stk.tif, slots t)) =
    some (42#32, false, [some 0x00#8, some 0x00#8, some 0xE6#8, some 0x5B#8]) := by decide
/-- A stopwatch at the largest count, on a machine that wraps. -/
def wrapping : State :=
  { stopwatch .running 4294967295#32 true with par := { base.par with overflow := .wraps } }

/-- T5: the model's fault, and the hardware's wrap. -/
theorem test_ev_tick_overflow :
    exec .evTick (stopwatch .running 4294967295#32 true) = .fault .counterOverflow ∧
    after (exec .evTick wrapping) (fun t => (t.stk.counter, slots t)) =
      some (0#32, [some 0x00#8, some 0x00#8, some 0xBF#8, some 0x3F#8]) := ⟨rfl, by decide⟩
/-- T1: 7, 402, 1005, 1234, 10007. -/
theorem test_render :
    [7#32, 402#32, 1005#32, 1234#32, 10007#32].map (renderSlots defaultParams) =
      [⟨0x00#8, 0x00#8, 0xBF#8, 0x07#8⟩, ⟨0x00#8, 0x66#8, 0xBF#8, 0x5B#8⟩, ⟨0x06#8, 0x3F#8, 0xBF#8, 0x6D#8⟩,
       ⟨0x06#8, 0x5B#8, 0xCF#8, 0x66#8⟩, ⟨0x00#8, 0x00#8, 0xBF#8, 0x07#8⟩] := by decide

/-! ### Events and dispatcher (95_test_vectors.md 2.8) -/

/-- Every line enabled, this edge latch, these sources in service. -/
def lines (eif edgeInService : Bool) (s : State) : State :=
  { s with irq := { ie := { disp := true, tick := true, edge := true },
                    insvc := { disp := false, tick := false, edge := edgeInService }, eif := eif } }

/-- `EV_SENSOR_EDGE` clears its latch and gives the edge context the handler, whose first word is the write of the register byte. -/
theorem test_ev_edge : after (exec .evSensorEdge (lines true true base)) (fun t => (t.irq.eif, t.ctx.edge.prog.head?)) =
    some (false, some (.command 0x03000000#32)) := by decide
/-- X1: the display first. -/
theorem test_dispatch_priority : after (step (due (.dispatch .tick .update)
      (lines false false { stopwatch .running 5#32 true with drs := { base.drs with uif := true } })))
    (fun t => (t.drs.uif, t.stk.tif, t.irq.insvc.disp)) = some (false, true, false) := by decide
/-- X2: either first. -/
theorem test_dispatch_tie :
    after (step (due (.dispatch .tick .update) (lines true false (stopwatch .running 5#32 true))))
      (fun t => (t.stk.counter, t.irq.eif)) = some (6#32, true) ∧
    after (step (due (.dispatch .edge .update) (lines true false (stopwatch .running 5#32 true))))
      (fun t => (t.stk.counter, t.irq.eif, t.irq.insvc.edge)) = some (5#32, false, true) := by decide
/-- X3, X4: while the edge handler runs neither tick nor edge is served. -/
theorem test_dispatch_masked :
    after (step (due (.dispatch .tick .update) (lines true true (stopwatch .running 5#32 true))))
      (fun t => (t.stk.counter, t.irq.eif)) = some (5#32, true) := by decide
/-- X7: the second update event is lost. -/
theorem test_event_lost : after (step (due (.dispTimer .update) { display 0xF#4 0xFF#8 0#2 with
      drs := { base.drs with den := true, uif := true, nextRaise := some .update } }))
    (fun t => (t.drs.uif, t.drs.nextRaise)) = some (true, some .compare) := by decide
/-- Z1, some fields. -/
theorem test_reset : after (step (due .reset (bus (engine 0x08#5 1#8 0#8) { base.biu with mode := .tx, claim := true })))
    (fun t => (t.bte.seq, t.biu.mode, t.biu.claim, t.drs.an, t.wire)) =
      some (0x00#5, .idle, false, 0xF#4, []) := by decide

/-! ### Witnesses: states and operands that meet the hypotheses of the statements, clause by clause, at boundary values -/

/-- A free BIU of a machine whose engine waits for the start condition. -/
def starting : State := due .biu (bus (engine 0x02#5 1#8 0#8) { base.biu with startreq := true })

/-- The engine hangs: address refused, `W_WAIT_ADDR` for ever (95_test_vectors.md V9). -/
def hung : State := bus (engine 0x04#5 1#8 0#8) { base.biu with mode := .fail, claim := true }

theorem witness_DecodeOfEncode :
    (Instr.drsPut 3#8 0xFF#8).wellFormed = true ∧ (Instr.bteTransact 0x7F#7 255#8 255#8).wellFormed = true := by decide

theorem witness_EncodeOfDecode :
    decode (.word 0x027FFFFF#32) = .ok (.bteTransact 0x7F#7 255#8 255#8) ∧ decode (.seq 0x13#5) = .ok .done := by decide

theorem witness_OperandsAreWordFields :
    (decodeCommand 0x027FFFFF#32 = .ok (.bteTransact 0x7F#7 255#8 255#8) ∧ base.bte.seq = 0x00#5) ∧
    decodeCommand 0x0300FFAA#32 = .ok (.bteWput 255#8 0xAA#8) ∧
    decodeCommand 0x11000300#32 = .ok (.drsPut 3#8 0#8) ∧
    decodeCommand 0x0400FF00#32 = .ok (.bteRget 255#8) := by decide

theorem witness_ReservedEncodings :
    ((giving 0x11000400#32 base).env.agenda = [.host .main] ∧
      ((giving 0x11000400#32 base).context .main).awaiting = false ∧
      ((giving 0x11000400#32 base).context .main).prog = [.command 0x11000400#32] ∧
      decodeCommand 0x11000400#32 = .error (.drsPutIndex 4#8)) ∧
    (0x13#5).toNat ≤ 0x13 ∧
    (due .seq (engine 0x14#5 0#8 0#8)).env.agenda = [.seq] ∧ 0x14 ≤ (due .seq (engine 0x14#5 0#8 0#8)).bte.seq.toNat := by
  decide

theorem witness_StepRunsDecodedInstruction :
    ((due .seq (engine 0x13#5 0#8 0#8)).env.agenda = [.seq] ∧
      decode (.seq (due .seq (engine 0x13#5 0#8 0#8)).bte.seq) = .ok .done) ∧
    ((giving 0x01000000#32 base).env.agenda = [.host .main] ∧
      ((giving 0x01000000#32 base).context .main).awaiting = false ∧
      ((giving 0x01000000#32 base).context .main).prog = [.command 0x01000000#32] ∧
      decodeCommand 0x01000000#32 = .ok .bteInit ∧ (giving 0x01000000#32 base).bte.seq = 0x00#5) ∧
    decodeSeq 0x13#5 = .ok .done := by decide

/-- Only the tick is pending: it is eligible, and the most urgent. -/
theorem witness_mostUrgent : (lines false false (stopwatch .running 5#32 true)).mostUrgent .tick := by
  refine ⟨⟨rfl, rfl, ?_⟩, ?_⟩
  · intro other h; cases other <;> cases h
  · intro other h
    cases other
    · exact absurd h.1 (by decide)
    · exact Nat.le_refl _
    · exact absurd h.1 (by decide)

theorem witness_BusyHoldsBteCommands :
    (Instr.bteInit.kind = .bteCommand ∧ (engine 0x13#5 0#8 0#8).bte.seq ≠ 0x00#5) ∧
    ((giving 0x0300014F#32 (engine 0x13#5 0#8 0#8)).env.agenda = [.host .main] ∧
      ((giving 0x0300014F#32 (engine 0x13#5 0#8 0#8)).context .main).awaiting = false ∧
      ((giving 0x0300014F#32 (engine 0x13#5 0#8 0#8)).context .main).prog = [.command 0x0300014F#32] ∧
      decodeCommand 0x0300014F#32 = .ok (.bteWput 1#8 0x4F#8) ∧
      (giving 0x0300014F#32 (engine 0x13#5 0#8 0#8)).bte.seq ≠ 0x00#5) ∧
    ((giving 0x21000000#32 (engine 0x13#5 0#8 0#8)).env.agenda = [.host .main] ∧
      ((giving 0x21000000#32 (engine 0x13#5 0#8 0#8)).context .main).prog = [.command 0x21000000#32] ∧
      decodeCommand 0x21000000#32 = .ok .stkTrigger ∧ Instr.stkTrigger.kind = .unitCommand) := by decide

/-- `BteInitResetsEngine`, `BteWputStoresByte`, `BteTransactBegins`: idle, and busy. -/
theorem witness_idle_and_busy : base.bte.seq = 0x00#5 ∧ (engine 0x01#5 1#8 0#8).bte.seq ≠ 0x00#5 := by decide

theorem witness_BteTransactBegins_holds_giver :
    (due (.host .edge) { base with ctx := { base.ctx with edge := { prog := [], awaiting := true, resp := 0#8 } } }).env.agenda =
      [.host .edge] ∧
    ((due (.host .edge) { base with ctx := { base.ctx with edge := { prog := [], awaiting := true, resp := 0#8 } } }).context
      .edge).awaiting = true := by decide

theorem witness_BteRgetAnswersByte :
    ({ base with rbuf := [(255, 0x04#8)] } : State).bte.seq = 0x00#5 ∧
    ({ base with rbuf := [(255, 0x04#8)] } : State).readByte .rbuf (255#8).toNat = some 0x04#8 := by decide

theorem witness_WaitsFollowTheirFlags :
    (due .seq (engine 0x11#5 0#8 1#8)).env.agenda = [.seq] ∧
    seqReady (due .seq (engine 0x11#5 0#8 1#8)).bte.seq (due .seq (engine 0x11#5 0#8 1#8)).biu = false := by decide

theorem witness_AddressBytesHandedOver : (engine 0x03#5 1#8 1#8).biu.drf = false := by decide

/-- `AddressConsumed`: the three cases of its hypothesis. -/
theorem witness_AddressConsumed :
    (bus base { base.biu with mode := .addrTx, addr := true }).biu.mode = .addrTx ∧
    (bus base { base.biu with mode := .addrRx, addr := true }).biu.mode = .addrRx ∧
    base.biu.mode ≠ .addrTx ∧ base.biu.mode ≠ .addrRx := by decide

/-- The engine at the last write byte of the longest transaction. -/
def lastWrite : State :=
  { base with
    bte := { seq := 0x06#5, devaddr := 0x29#7, wlen := 255#8, rlen := 0#8, widx := 254#8, ridx := 0#8 },
    wbuf := [(254, 0xAA#8)] }

theorem witness_WriteByteHandedOver :
    lastWrite.biu.drf = false ∧ lastWrite.readByte .wbuf lastWrite.bte.widx.toNat = some 0xAA#8 := by decide

theorem witness_StopIsEager :
    (bus base { base.biu with mode := .tx, claim := true }).biu.stopCanGo ∧
    (bus base { base.biu with mode := .rxHalt, claim := true }).biu.stopCanGo ∧
    ¬ (bus base { base.biu with mode := .rx, claim := true }).biu.stopCanGo := by
  refine ⟨.inl ⟨rfl, rfl, rfl⟩, .inr rfl, ?_⟩
  rintro (⟨h, _⟩ | h) <;> cases h

/-- `EndIsStagedOneByteEarly`: n = 1, n = 2 and n = 255 at their staging indices, n = 3 at index 0. -/
theorem witness_EndIsStagedOneByteEarly :
    ({ seq := 0x10#5, devaddr := 0#7, wlen := 0#8, rlen := 1#8, widx := 0#8, ridx := 0#8 } : Bte).stages ∧
    ({ seq := 0x10#5, devaddr := 0#7, wlen := 0#8, rlen := 2#8, widx := 0#8, ridx := 0#8 } : Bte).stages ∧
    ({ seq := 0x10#5, devaddr := 0#7, wlen := 0#8, rlen := 255#8, widx := 0#8, ridx := 253#8 } : Bte).stages ∧
    ¬ ({ seq := 0x10#5, devaddr := 0#7, wlen := 0#8, rlen := 3#8, widx := 0#8, ridx := 0#8 } : Bte).stages := by
  unfold Bte.stages
  decide

theorem witness_ReadByteCopiedOut :
    (bus (engine 0x12#5 0#8 1#8) { base.biu with rxne := true, drf := true, dr := 0x04#8 }).biu.rxne = true := by decide

/-- The three conditions of `UnspecifiedBytesStopNothing`. -/
theorem witness_UnspecifiedBytesStopNothing :
    (bus base { base.biu with drf := true }).biu.drf = true ∧ base.biu.rxne = false ∧ base.bte.seq = 0x00#5 := by decide

theorem witness_SuccessorTable :
    (decode (.seq (engine 0x06#5 2#8 0#8).bte.seq) = .ok .wData ∧
      after (exec .wData { engine 0x06#5 2#8 0#8 with wbuf := [(0, 1#8)] }) (fun t => t.bte.seq) = some 0x07#5) ∧
    (seqReady 0x11#5 base.biu = false ∧ seqReady 0x06#5 base.biu = true) ∧
    after (exec (.bteTransact 0x29#7 1#8 0#8) base) (fun t => t.bte.seq) = some 0x01#5 := by decide

theorem witness_StartConditionSent :
    starting.env.agenda = [.biu] ∧ seqReady starting.bte.seq starting.biu = false ∧
    starting.biu.startreq = true ∧ starting.biu.stopreq = false ∧ starting.biu.mode = .idle := by decide

/-- The BIU's turn in a wait of the engine. -/
def waiting (c : BitVec 5) (b : Biu) : State := due .biu (bus (engine c 1#8 1#8) b)

theorem witness_AddressByteSent :
    (waiting 0x04#5 { base.biu with mode := .started, drf := true }).env.agenda = [.biu] ∧
    seqReady (waiting 0x04#5 { base.biu with mode := .started, drf := true }).bte.seq
      (waiting 0x04#5 { base.biu with mode := .started, drf := true }).biu = false ∧
    (waiting 0x04#5 { base.biu with mode := .started, drf := true }).biu.mode = .started ∧
    (waiting 0x04#5 { base.biu with mode := .started, drf := true }).biu.drf = true := by decide

theorem witness_WriteByteSent :
    (waiting 0x08#5 { base.biu with mode := .tx, drf := true }).env.agenda = [.biu] ∧
    seqReady 0x08#5 (waiting 0x08#5 { base.biu with mode := .tx, drf := true }).biu = false ∧
    (waiting 0x08#5 { base.biu with mode := .tx, drf := true }).biu.mode = .tx ∧
    (waiting 0x08#5 { base.biu with mode := .tx, drf := true }).biu.drf = true ∧
    (waiting 0x08#5 { base.biu with mode := .tx, drf := true }).biu.shf = false ∧
    (waiting 0x08#5 { base.biu with mode := .tx, shf := true }).biu.shf = true := by decide

theorem witness_ReadByteTaken :
    (waiting 0x11#5 { base.biu with mode := .rx, ackl := true }).env.agenda = [.biu] ∧
    seqReady 0x11#5 (waiting 0x11#5 { base.biu with mode := .rx, ackl := true }).biu = false ∧
    (waiting 0x11#5 { base.biu with mode := .rx, ackl := true }).biu.mode = .rx ∧
    (waiting 0x11#5 { base.biu with mode := .rx, ackl := true }).biu.drf = false ∧
    (waiting 0x11#5 { base.biu with mode := .rx, ackl := true }).biu.ackl = true ∧
    (waiting 0x11#5 { base.biu with mode := .rx }).biu.ackl = false ∧
    (waiting 0x11#5 { base.biu with mode := .rx }).biu.stopreq = false ∧
    (waiting 0x11#5 { base.biu with mode := .rx, stopreq := true }).biu.stopreq = true := by decide

theorem witness_BiuMovesOnlyWhenItMay :
    (base.biu.enabled .start = false ∧ starting.biu.enabled .start = true) ∧
    (due .biu (engine 0x01#5 1#8 0#8)).env.agenda = [.biu] ∧ base.par.sched = .enginePriority ∧
    seqReady (engine 0x01#5 1#8 0#8).bte.seq base.biu = true ∧
    [Move.start, .addr, .txload, .txbyte, .rxbyte].all (fun m => !hung.biu.enabled m) = true := by decide

theorem witness_HangIsForEver : hung.biu.mode = .fail ∧ hung.hangs = true ∧ hung.turnNow ≠ .reset ∧
    hung.canCount = true ∧
    ({ hung with ctx := { hung.ctx with edge := { prog := [], awaiting := true, resp := 0#8 } } } : State).hangs = true := by
  decide

/-- `transact 0x29, [0x00, 0x4F], 1`, device answers 0x04 (95_test_vectors.md V3). -/
theorem witness_WholeTransaction :
    base.bte.seq = 0x00#5 ∧ base.biu.quiet = true ∧ base.env.agenda = [] ∧ ¬ (2#8 = 0#8 ∧ 1#8 = 0#8) ∧
    ({ base.env with acks := List.replicate 5 true, bytes := [0x04#8] } : Env).acks =
      List.replicate (acksAsked (2#8).toNat (1#8).toNat) true ++ [true] ∧
    ({ base.env with acks := List.replicate 5 true, bytes := [0x04#8] } : Env).bytes = [0x04#8] ++ [] ∧
    [0x04#8].length = (1#8).toNat := by decide

theorem witness_WriteOnlyNeverReads :
    (due .seq (engine 0x01#5 1#8 0#8)).readsAskedFor = true ∧
    after (step (due .seq (engine 0x01#5 1#8 0#8))) (fun t => t.bte.seq) = some 0x02#5 ∧
    (due .seq (engine 0x01#5 1#8 0#8)).bte.seq ≠ 0x00#5 ∧ (due .seq (engine 0x01#5 1#8 0#8)).bte.rlen = 0#8 ∧
    (due .seq (engine 0x01#5 1#8 0#8)).turnNow ≠ .reset := by decide

/-- `TickCountsAndShows`: the last count below the limit, the limit of a machine that wraps, and of one that faults with its tick
about to be served. -/
theorem witness_TickCountsAndShows :
    (Memory.wf .fb (stopwatch .running 4294967294#32 true).fb = true ∧
      (stopwatch .running 4294967294#32 true).stk.counter.toNat + 1 < 2 ^ 32) ∧
    (Memory.wf .fb wrapping.fb = true ∧ wrapping.par.overflow = .wraps) ∧
    (lines false false (stopwatch .running 4294967295#32 true)).par.overflow = .faults ∧
    (lines false false (stopwatch .running 4294967295#32 true)).stk.counter.toNat = 2 ^ 32 - 1 ∧
    (lines false false (stopwatch .running 4294967295#32 true)).mostUrgent .tick := by
  refine ⟨by decide, by decide, by decide, by decide, ⟨rfl, rfl, ?_⟩, ?_⟩
  · intro other h; cases other <;> cases h
  · intro other h
    cases other
    · exact absurd h.1 (by decide)
    · exact Nat.le_refl _
    · exact absurd h.1 (by decide)

/-- `DrsInitBlanksDisplay`, `DrsPutStoresSlot`, `StkInitResetsStopwatch`: a canonical frame buffer; the slot
index at its last value, and past it. -/
theorem witness_slots : Memory.wf .fb (display 0xF#4 0xFF#8 0#2).fb = true ∧ (3#8).toNat ≤ 3 ∧ 4 ≤ (4#8).toNat := by decide

theorem witness_DisplayHandlersDriveLines :
    (display 0xE#4 0xF9#8 3#2).readByte .fb (display 0xE#4 0xF9#8 3#2).drs.digitIdx.toNat = some 0x66#8 := by decide

/-- `UpdateLightsOneDigit`, `RoundRobin`. -/
theorem witness_dark_display :
    (display 0xF#4 0xFF#8 3#2).drs.an = 0xF#4 ∧ (display 0xF#4 0xFF#8 3#2).drs.ca = 0xFF#8 ∧
    (display 0xF#4 0xFF#8 3#2).readByte .fb (display 0xF#4 0xFF#8 3#2).drs.digitIdx.toNat = some 0x66#8 := by decide

theorem witness_TriggerTransitions :
    (stopwatch .idle 0#32 false).stk.swState = .idle ∧ (stopwatch .running 5#32 true).stk.swState = .running ∧
    (stopwatch .stopped 5#32 false).stk.swState = .stopped ∧ Memory.wf .fb (stopwatch .stopped 5#32 false).fb = true := by decide

theorem witness_TriggerCycle :
    (stopwatch .idle 0#32 false).stk.swState = .idle ∧ (stopwatch .idle 0#32 false).stk.ten = false := by decide

/-- The slots show 1234 and a tick keeps them in step. -/
theorem witness_SlotsKeepShowingCounter :
    ({ stopwatch .running 1234#32 true with fb := shown } : State).showsCount 1234 ∧
    Memory.wf .fb shown = true ∧ Instr.evTick ≠ .drsInit ∧ (∀ idx byte, Instr.evTick ≠ .drsPut idx byte) ∧
    after (exec .evTick { stopwatch .running 1234#32 true with fb := shown }) (fun t => t.stk.counter) = some 1235#32 := by
  refine ⟨?_, by decide, by decide, ?_, by decide⟩
  rotate_left
  · intro _ _ h
    cases h
  unfold State.showsCount
  decide

theorem witness_EventsRaiseTheirFlags :
    ((due (.dispTimer .compare) base).env.agenda = [.dispTimer .compare] ∧ base.drs.den = false) ∧
    ((display 0xF#4 0xFF#8 0#2).drs.den = true ∧ (display 0xF#4 0xFF#8 0#2).drs.nextRaise = none) ∧
    (due .tickTimer base).env.agenda = [.tickTimer] ∧ (due .sensorEdge base).env.agenda = [.sensorEdge] ∧
    (due (.enableLine .edge) base).env.agenda = [.enableLine .edge] ∧
    (due (.inject 0x80000000#32) base).env.agenda = [.inject 0x80000000#32] ∧
    (0x84000000#32 : Word) ∉ [0x80000000#32, 0x81000000#32, 0x82000000#32, 0x83000000#32] := by decide

/-- An injected tick sets `TIF` with the tick timer stopped; an injected event word with a bit below its code set does nothing. -/
theorem test_inject :
    after (step (due (.inject 0x82000000#32) base)) (fun t => (t.stk.tif, t.stk.ten)) = some (true, false) ∧
    after (step (due (.inject 0x82000001#32) base)) (fun t => t.stk.tif) = some false := by decide

theorem witness_DispatcherServesMostUrgent :
    (due (.dispatch .edge .update) base).env.agenda = [.dispatch .edge .update] ∧
    (∀ src : Source, ¬ (due (.dispatch .edge .update) base).eligibleFor src) ∧
    (lines false false (stopwatch .running 5#32 true)).eligibleFor .tick ∧
    (lines false false (stopwatch .running 5#32 true)).canCount = true := by
  refine ⟨rfl, ?_, witness_mostUrgent.1, by decide⟩
  intro src h
  cases src <;> exact absurd h.1 (by decide)

theorem witness_HandlersEnterAndReturn :
    (due (.dispatch .tick .update) (lines true true (stopwatch .running 5#32 true))).env.agenda = [.dispatch .tick .update] ∧
    after (step (due (.dispatch .tick .update) (lines true true (stopwatch .running 5#32 true)))) (fun t => t.stk.tif) =
      some true ∧
    (lines true true base).irq.insvc.get .edge = true := by decide

theorem witness_EdgeHandlerMasksTicks :
    (due (.dispatch .tick .update) (lines true true (display 0xF#4 0xFF#8 0#2))).env.agenda = [.dispatch .tick .update] ∧
    base.par.prio = { disp := 0, tick := 1, edge := 1 } ∧
    (lines true true base).irq.insvc = { disp := false, tick := false, edge := true } ∧
    (lines true true base).irq.ie.disp = true ∧
    ({ digitIdx := 0#2, an := 0xF#4, ca := 0xFF#8, den := true, uif := true, ccif := false, nextRaise := none } : Drs).uif = true ∧
    ({ digitIdx := 0#2, an := 0xF#4, ca := 0xFF#8, den := true, uif := false, ccif := true, nextRaise := none } : Drs).ccif =
      true := by decide

/-- X6 under the edge handler: both display events pending, the turn picks, the other stays pending. -/
theorem test_both_display_events_pending :
    after (step (due (.dispatch .tick .update) (lines true true { base with drs := { base.drs with uif := true, ccif := true } })))
      (fun t => (t.drs.uif, t.drs.ccif, t.drs.digitIdx)) = some (false, true, 1#2) ∧
    after (step (due (.dispatch .tick .compare) (lines true true { base with drs := { base.drs with uif := true, ccif := true } })))
      (fun t => (t.drs.uif, t.drs.ccif, t.drs.digitIdx)) = some (true, false, 0#2) := by decide

theorem witness_EdgeHandlerBegins :
    base.par.sensor = sensor ∧ sensor.order = .highFirst ∧ ({ sensor with order := .lowFirst } : Sensor).order = .lowFirst := by
  decide

/-- The edge handler has just begun on the idle machine, the device answers `MODE_LOW`. -/
def edgeBegun : State :=
  { lines false true base with
    ctx := { base.ctx with edge := { prog := edgeHandler sensor, awaiting := false, resp := 0#8 } },
    env := { base.env with acks := List.replicate 12 true, bytes := [0x01#8] } }

theorem witness_EdgeHandlerRun :
    edgeBegun.par.sensor = sensor ∧ edgeBegun.bte.seq = 0x00#5 ∧ edgeBegun.biu.quiet = true ∧ edgeBegun.env.agenda = [] ∧
    edgeBegun.irq.insvc.edge = true ∧ edgeBegun.ctx.edge.awaiting = false ∧ edgeBegun.ctx.edge.prog = edgeHandler sensor ∧
    edgeBegun.env.acks = List.replicate 12 true ++ [] ∧ edgeBegun.env.bytes = 0x01#8 :: [] := by decide

theorem witness_EdgeHandlerStaysInService :
    edgeBegun.handlersOk = true ∧ edgeBegun.irq.insvc.edge = true ∧ edgeBegun.turnNow ≠ .reset ∧
    edgeBegun.ctx.edge.prog ≠ [.handlerReturn] ∧ after (step edgeBegun) (fun t => t.irq.insvc.edge) = some true := by decide

/-- Main-line at the test of the fresh-out-of-reset byte `f`, one word to give after it. -/
def testing (f : Byte) : State :=
  due (.host .main) { base with ctx := { base.ctx with main :=
    { prog := [.freshTest, .command 0x21000000#32], awaiting := false, resp := f } } }

theorem witness_BootOrder :
    ((due .boot base).env.agenda = [.boot] ∧ (due .boot base).par.sensor = sensor) ∧
    ((testing 0x01#8).env.agenda = [.host .main] ∧ (testing 0x01#8).ctx.main.awaiting = false ∧
      (testing 0x01#8).ctx.main.prog = .freshTest :: [.command 0x21000000#32] ∧ (testing 0x01#8).ctx.main.resp ≠ 0#8) ∧
    (testing 0x00#8).ctx.main.resp = 0#8 := by decide

/-- R264: the calibration write, then the clearing of the flag, before what follows; nothing with the flag clear. -/
theorem test_fresh_branch :
    after (step (testing 0x01#8)) (fun t => t.ctx.main.prog) =
      some [.command 0x03000002#32, .command 0x03000107#32, .command 0x03000201#32, .command 0x02290300#32,
            .command 0x03000000#32, .command 0x03000116#32, .command 0x03000200#32, .command 0x02290300#32,
            .command 0x21000000#32] ∧
    after (step (testing 0x00#8)) (fun t => t.ctx.main.prog) = some [.command 0x21000000#32] := by decide

/-- A boot turn keeps a command that main-line holds (R145, notes/assumptions/26.md). -/
theorem test_boot_keeps_held_command :
    after (step (due .boot (giving 0x03000000#32 (engine 0x01#5 1#8 0#8)))) (fun t => t.ctx.main.prog.take 2) =
      some [.command 0x03000000#32, .command 0x01000000#32] := by decide

theorem witness_UnitsAreSeparate :
    after (exec (.bteWput 255#8 1#8) base) (fun t => t.wbuf) = some [(255, 1#8)] ∧ base.wbuf = [] ∧
    Instr.drsInit.kind = .unitCommand ∧ Instr.evTick.kind = .event ∧ Instr.rData.kind = .micro := by decide

theorem witness_OnlyResetForgets :
    after (step (due .sensorEdge (lines false false (display 0xF#4 0xFF#8 0#2)))) (fun t => t.irq.eif) = some true ∧
    (due .sensorEdge (lines false false base)).turnNow ≠ .reset ∧ (lines false false base).irq.ie.get .edge = true ∧
    (display 0xF#4 0xFF#8 0#2).drs.den = true ∧ ((display 0xF#4 0xFF#8 0#2).readByte .fb 3).isSome = true := by decide

theorem witness_ResetForgetsEverything : (due .reset hung).env.agenda = [.reset] := by decide

/-- `MemoriesStayCanonical`, `EveryStepSucceeds`, `EngineAndBusStayInStep`, `FlagInvariants`, `HandlersInvariant`: a transaction in
its write phase, with bytes in the buffers. -/
def writing : State :=
  due .seq { bus (engine 0x06#5 2#8 1#8) { base.biu with mode := .tx, claim := true, txe := true } with
    wbuf := [(0, 0x00#8), (255, 0x4F#8)], rbuf := [(0, 0x04#8)], fb := shown }

theorem witness_invariants :
    writing.memoriesOk = true ∧ writing.seqOk = true ∧ writing.par.sched = .enginePriority ∧ writing.protocolOk = true ∧
    writing.handlersOk = true ∧ after (step writing) (fun t => t.bte.seq) = some 0x07#5 := by decide

theorem witness_StopwatchInvariant :
    (due (.dispatch .tick .update) (lines false false (stopwatch .running 5#32 true))).noBench = true ∧
    (due (.dispatch .tick .update) (lines false false (stopwatch .running 5#32 true))).stk.ok = true ∧
    after (step (due (.dispatch .tick .update) (lines false false (stopwatch .running 5#32 true)))) (fun t => t.stk.counter) =
      some 6#32 := by decide

end Sys2Proof.Tests
end

section
/-! # Which instruction writes what (10_state.md R38, R298)

Engine-side instructions (BTE commands, micro-operations) are built from operations of the engine and the BIU, unit-side ones (DRS
and STK commands, events) from operations of the display, the stopwatch and the edge latch. Each side has a frame relation between
the state before and the state after; the three engine-side instructions that write a buffer or the answer are its named exceptions. -/

namespace Sys2Proof.Machine

/-! ### The frames -/

/-- What `i` wrote it owns: each buffer and the answer has one writer; the line enables, the in-service bits and the parameters
have none. -/
structure OwnedWrites (i : Instr) (s t : State) : Prop where
  wbuf : t.wbuf ≠ s.wbuf → ∃ idx byte, i = .bteWput idx byte
  rbuf : t.rbuf ≠ s.rbuf → i = .rData
  rsp : t.rsp ≠ s.rsp → ∃ idx, i = .bteRget idx
  ie : t.irq.ie = s.irq.ie
  insvc : t.irq.insvc = s.irq.insvc
  par : t.par = s.par

/-- Nothing moved but the engine's registers, the BIU, the wire, the givers and the environment: the frame of every operation of the
engine on the bus. -/
structure BusOnly (s t : State) : Prop where
  drs : t.drs = s.drs
  stk : t.stk = s.stk
  irq : t.irq = s.irq
  fb : t.fb = s.fb
  wbuf : t.wbuf = s.wbuf
  rbuf : t.rbuf = s.rbuf
  rsp : t.rsp = s.rsp
  par : t.par = s.par

/-- Nothing moved but the display, the stopwatch, the frame buffer, the edge latch and the givers: the frame of every operation of
the units. -/
structure UnitsOnly (s t : State) : Prop where
  bte : t.bte = s.bte
  biu : t.biu = s.biu
  wbuf : t.wbuf = s.wbuf
  rbuf : t.rbuf = s.rbuf
  wire : t.wire = s.wire
  rsp : t.rsp = s.rsp
  env : t.env = s.env
  ie : t.irq.ie = s.irq.ie
  insvc : t.irq.insvc = s.irq.insvc
  par : t.par = s.par

/-- The frame of an engine-side instruction: the other units as they were, and no buffer or answer written but its own. -/
structure EngineFrame (i : Instr) (s t : State) : Prop extends OwnedWrites i s t where
  drs : t.drs = s.drs
  stk : t.stk = s.stk
  irq : t.irq = s.irq
  fb : t.fb = s.fb

theorem BusOnly.refl (s : State) : BusOnly s s := by constructor <;> rfl

theorem BusOnly.engineFrame {s t : State} (h : BusOnly s t) (i : Instr) : EngineFrame i s t :=
  ⟨⟨fun hne => absurd h.wbuf hne, fun hne => absurd h.rbuf hne, fun hne => absurd h.rsp hne,
    congrArg Irq.ie h.irq, congrArg Irq.insvc h.irq, h.par⟩, h.drs, h.stk, h.irq, h.fb⟩

theorem UnitsOnly.ownedWrites {s t : State} (h : UnitsOnly s t) (i : Instr) : OwnedWrites i s t :=
  ⟨fun hne => absurd h.wbuf hne, fun hne => absurd h.rbuf hne, fun hne => absurd h.rsp hne, h.ie, h.insvc, h.par⟩

/-! ### The operations of the engine stay on the bus -/

theorem State.aStart_busOnly (s : State) : BusOnly s s.aStart := by constructor <;> rfl

theorem State.aAck_busOnly (s : State) (b : Bool) : BusOnly s (s.aAck b) := by constructor <;> rfl

theorem State.aStop_busOnly (s : State) : BusOnly s s.aStop := by constructor <;> simp

theorem State.stageEnd_busOnly (s : State) : BusOnly s s.stageEnd := by constructor <;> simp

theorem State.aDrWrite_busOnly (s : State) (v : Byte) : BusOnly s (s.aDrWrite v) := by constructor <;> simp

theorem State.aClrAddr_busOnly (s : State) : BusOnly s s.aClrAddr := by constructor <;> simp

theorem State.waitThen_busOnly (s : State) (flag : Bool) (c : BitVec 5) : BusOnly s (s.waitThen flag c) := by constructor <;> simp

theorem State.releaseGivers_busOnly (s : State) : BusOnly s s.releaseGivers := by constructor <;> rfl

theorem State.initEngine_busOnly (s : State) : BusOnly s s.initEngine := by constructor <;> rfl

theorem State.beginTransaction_busOnly (s : State) (addr : BitVec 7) (m n : BitVec 8) :
    BusOnly s (s.beginTransaction addr m n) := by constructor <;> rfl

theorem BusOnly.setSeq {s t : State} (h : BusOnly s t) (c : BitVec 5) : BusOnly s (t.setSeq c) :=
  ⟨h.drs, h.stk, h.irq, h.fb, h.wbuf, h.rbuf, h.rsp, h.par⟩

theorem BusOnly.countWritten {s t : State} (h : BusOnly s t) : BusOnly s t.countWritten :=
  ⟨h.drs, h.stk, h.irq, h.fb, h.wbuf, h.rbuf, h.rsp, h.par⟩

/-- What holds of a held command's state and of its effect's holds of the command's answer (40_bus_transaction_engine.md R145). -/
theorem State.whenIdle_cases {P : State → Prop} {s : State} {f : State → State} (held : P s) (taken : P (f s)) :
    P (s.whenIdle f) := by
  unfold State.whenIdle
  split
  · exact held
  · exact taken

/-! ### The three engine-side instructions that write a buffer or the answer -/

theorem State.writeWbuf_engineFrame (s : State) (idx : BitVec 8) (byte : Byte) :
    EngineFrame (.bteWput idx byte) s (s.writeByte .wbuf idx.toNat byte) :=
  ⟨⟨fun _ => ⟨idx, byte, rfl⟩, fun hne => absurd rfl hne, fun hne => absurd rfl hne, rfl, rfl, rfl⟩, rfl, rfl, rfl, rfl⟩

theorem State.respond_engineFrame (s : State) (idx : BitVec 8) (v : Byte) :
    EngineFrame (.bteRget idx) s (s.respond v) :=
  ⟨⟨fun hne => absurd rfl hne, fun hne => absurd rfl hne, fun _ => ⟨idx, rfl⟩, rfl, rfl, rfl⟩, rfl, rfl, rfl, rfl⟩

theorem execRData_engineFrame {s t : State} (h : execRData s = .next t) : EngineFrame .rData s t := by
  cases h
  refine ⟨⟨fun hne => absurd ?_ hne, fun _ => rfl, fun hne => absurd ?_ hne, ?_, ?_, ?_⟩, ?_, ?_, ?_, ?_⟩ <;> simp

/-! ### The engine-side instructions -/

theorem exec_bteCommand_engineFrame {i : Instr} {s t : State} (hk : i.kind = .bteCommand) (h : exec i s = .next t) :
    EngineFrame i s t := by
  have held := (BusOnly.refl s).engineFrame i
  cases i with
  | bteInit => cases h; exact State.whenIdle_cases held (s.initEngine_busOnly.engineFrame _)
  | bteTransact addr m n => cases h; exact State.whenIdle_cases held ((s.beginTransaction_busOnly addr m n).engineFrame _)
  | bteWput idx byte => cases h; exact State.whenIdle_cases held (s.writeWbuf_engineFrame idx byte)
  | bteRget idx => cases h; exact State.whenIdle_cases held (s.respond_engineFrame idx _)
  | _ => cases hk

theorem exec_micro_busOnly {i : Instr} {s t : State} (hk : i.kind = .micro) (hi : i ≠ .rData) (h : exec i s = .next t) :
    BusOnly s t := by
  cases i with
  | idle => cases h; exact .refl s
  | wWaitSb | wWaitAddr | wWaitTxe | wWaitBtf | rWaitSb | rWaitAddr | rWaitRxne => cases h; exact s.waitThen_busOnly _ _
  | wStart | rStart => cases h; exact s.aStart_busOnly.setSeq _
  | wAddr | rAddr => cases h; exact (s.aDrWrite_busOnly _).setSeq _
  | wClrAddr | rClrAddr => cases h; exact s.aClrAddr_busOnly.setSeq _
  | wData => cases h; exact (s.aDrWrite_busOnly _).countWritten.setSeq _
  | wStop => cases h; exact s.aStop_busOnly.setSeq _
  | rAckpol => cases h; exact (s.aAck_busOnly _).setSeq _
  | rStage =>
    cases h
    refine BusOnly.setSeq ?_ _
    split
    · exact s.stageEnd_busOnly
    · exact .refl s
  | rData => exact absurd rfl hi
  | done => cases h; exact s.releaseGivers_busOnly.setSeq _
  | _ => cases hk

theorem exec_engineFrame {i : Instr} {s t : State} (hk : i.kind = .bteCommand ∨ i.kind = .micro) (h : exec i s = .next t) :
    EngineFrame i s t := by
  obtain hk | hk := hk
  · exact exec_bteCommand_engineFrame hk h
  · by_cases hi : i = .rData
    · subst hi
      exact execRData_engineFrame h
    · exact (exec_micro_busOnly hk hi h).engineFrame i

/-! ### The unit-side instructions -/

theorem State.initDisplay_unitsOnly (s : State) : UnitsOnly s s.initDisplay := by constructor <;> rfl

theorem State.putSlot_unitsOnly (s : State) (idx : Nat) (b : Byte) : UnitsOnly s (s.putSlot idx b) := by constructor <;> simp

theorem State.startStopwatch_unitsOnly (s : State) : UnitsOnly s s.startStopwatch := by constructor <;> rfl

theorem State.stopStopwatch_unitsOnly (s : State) : UnitsOnly s s.stopStopwatch := by constructor <;> rfl

theorem State.clearStopwatch_unitsOnly (s : State) : UnitsOnly s s.clearStopwatch := by constructor <;> simp

theorem State.countTick_unitsOnly (s : State) : UnitsOnly s s.countTick := by constructor <;> simp

theorem execStkInit_unitsOnly {s t : State} (h : execStkInit s = .next t) : UnitsOnly s t := by
  cases h
  constructor <;> simp

theorem execStkTrigger_unitsOnly {s t : State} (h : execStkTrigger s = .next t) : UnitsOnly s t := by
  cases h
  split
  · exact s.startStopwatch_unitsOnly
  · exact s.stopStopwatch_unitsOnly
  · exact s.clearStopwatch_unitsOnly

theorem execEvTick_unitsOnly {s t : State} (h : execEvTick s = .next t) : UnitsOnly s t := by
  obtain ⟨-, rfl⟩ := (execEvTick_next s t).1 h
  exact s.countTick_unitsOnly

theorem exec_unitsOnly {i : Instr} {s t : State} (hk : i.kind = .unitCommand ∨ i.kind = .event) (h : exec i s = .next t) :
    UnitsOnly s t := by
  cases i with
  | drsInit => cases h; exact s.initDisplay_unitsOnly
  | drsPut idx byte => cases h; exact s.putSlot_unitsOnly idx.toNat byte
  | stkInit => exact execStkInit_unitsOnly h
  | stkTrigger => exact execStkTrigger_unitsOnly h
  | evDispUpdate | evDispCompare | evSensorEdge => cases h; constructor <;> rfl
  | evTick => exact execEvTick_unitsOnly h
  | _ => simp [Instr.kind] at hk

/-! ### Every instruction -/

/-- An instruction belongs to the engine's side or to the units' side. -/
theorem kind_engineSide_or_unitSide (i : Instr) :
    (i.kind = .bteCommand ∨ i.kind = .micro) ∨ (i.kind = .unitCommand ∨ i.kind = .event) := by
  cases i.kind <;> simp

theorem exec_ownedWrites {i : Instr} {s t : State} (h : exec i s = .next t) : OwnedWrites i s t := by
  obtain hk | hk := kind_engineSide_or_unitSide i
  · exact (exec_engineFrame hk h).toOwnedWrites
  · exact (exec_unitsOnly hk h).ownedWrites i

/-- Settles O50, from the frame of the engine-side instructions, the frame of the unit-side ones, and what both own. -/
theorem unitsAreSeparate : Obligations.UnitsAreSeparate := by
  intro i s t h
  have engine (hk : i.kind = .bteCommand ∨ i.kind = .micro) : EngineFrame i s t := exec_engineFrame hk h
  have units (hk : i.kind = .unitCommand ∨ i.kind = .event) : UnitsOnly s t := exec_unitsOnly hk h
  have own : OwnedWrites i s t := exec_ownedWrites h
  exact ⟨fun hk => ⟨(engine hk).drs, (engine hk).stk, (engine hk).irq, (engine hk).fb⟩,
    fun hk => ⟨(units hk).bte, (units hk).biu, (units hk).wbuf, (units hk).rbuf, (units hk).wire, (units hk).rsp, (units hk).env⟩,
    own.wbuf, own.rbuf, own.rsp, own.ie, own.insvc, own.par⟩

end Sys2Proof.Machine
end

section
/-! # The three memories stay canonical (20_memory.md R80, R86, R87)

The invariant speaks of the three memories alone, so everything that leaves them as they are keeps it: `t.mem = s.mem` is that frame,
for all three at once. A turn but reset's leaves the memories alone or runs one instruction between two such frames; every write an
instruction makes is `writeByte` at an index inside its space. -/

namespace Sys2Proof.Machine

/-! ### The invariant, per space -/

theorem State.memoriesOk_iff (s : State) : s.memoriesOk = true ↔ ∀ sp, Memory.wf sp (s.mem sp) = true := by
  simp only [State.memoriesOk, Bool.and_eq_true]
  constructor
  · rintro ⟨⟨hfb, hwbuf⟩, hrbuf⟩ sp
    cases sp with
    | fb => exact hfb
    | wbuf => exact hwbuf
    | rbuf => exact hrbuf
  · intro h
    exact ⟨⟨h .fb, h .wbuf⟩, h .rbuf⟩

theorem State.memoriesOk_of_mem_eq {s t : State} (h : t.mem = s.mem) (hs : s.memoriesOk = true) : t.memoriesOk = true := by
  rw [State.memoriesOk_iff, h, ← State.memoriesOk_iff]
  exact hs

theorem State.mem_eq {s t : State} (hfb : t.fb = s.fb := by simp) (hwbuf : t.wbuf = s.wbuf := by simp)
    (hrbuf : t.rbuf = s.rbuf := by simp) : t.mem = s.mem := by
  funext sp
  cases sp with
  | fb => exact hfb
  | wbuf => exact hwbuf
  | rbuf => exact hrbuf

/-- A write inside its space keeps all three memories canonical. -/
theorem State.writeByte_memoriesOk {s : State} {sp : Space} {i : Nat} (v : Byte) (hi : i < sp.size)
    (hs : s.memoriesOk = true) : (s.writeByte sp i v).memoriesOk = true :=
  (State.memoriesOk_iff _).2 fun sp' => State.mem_writeByte_wf s sp sp' i v hi ((State.memoriesOk_iff s).1 hs sp')

/-! ### The operations of the units on the frame buffer -/

/-- `putSlot` needs no bound: it tests the index itself (20_memory.md R87). -/
theorem State.putSlot_memoriesOk {s : State} (i : Nat) (b : Byte) (hs : s.memoriesOk = true) :
    (s.putSlot i b).memoriesOk = true := by
  unfold State.putSlot
  split
  · exact State.writeByte_memoriesOk b ‹_› hs
  · exact hs

theorem State.render_memoriesOk {s : State} (hs : s.memoriesOk = true) : s.render.memoriesOk = true :=
  State.putSlot_memoriesOk 3 _ (State.putSlot_memoriesOk 2 _ (State.putSlot_memoriesOk 1 _ (State.putSlot_memoriesOk 0 _ hs)))

theorem State.blankSlots_memoriesOk {s : State} (hs : s.memoriesOk = true) : s.blankSlots.memoriesOk = true := by
  have slot {u : State} {i : Nat} (hi : i < Space.size .fb) (hu : u.memoriesOk = true) :
      (u.writeByte .fb i 0x00#8).memoriesOk = true := State.writeByte_memoriesOk _ hi hu
  exact slot (by decide) (slot (by decide) (slot (by decide) (slot (by decide) hs)))

theorem State.initDisplay_memoriesOk {s : State} (hs : s.memoriesOk = true) : s.initDisplay.memoriesOk = true :=
  State.memoriesOk_of_mem_eq rfl (State.blankSlots_memoriesOk hs)

theorem State.clearStopwatch_memoriesOk {s : State} (hs : s.memoriesOk = true) : s.clearStopwatch.memoriesOk = true :=
  State.render_memoriesOk (State.memoriesOk_of_mem_eq rfl hs)

theorem State.countTick_memoriesOk {s : State} (hs : s.memoriesOk = true) : s.countTick.memoriesOk = true :=
  State.render_memoriesOk (State.memoriesOk_of_mem_eq rfl hs)

/-! ### Every instruction -/

theorem BusOnly.mem {s t : State} (h : BusOnly s t) : t.mem = s.mem := State.mem_eq h.fb h.wbuf h.rbuf

theorem State.whenIdle_memoriesOk {s : State} {f : State → State} (hs : s.memoriesOk = true)
    (hf : (f s).memoriesOk = true) : (s.whenIdle f).memoriesOk = true :=
  State.whenIdle_cases (P := fun u => u.memoriesOk = true) hs hf

/-- `RIDX` is a byte, so `R_DATA` writes inside `RBUF`. -/
theorem execRData_memoriesOk {s t : State} (hs : s.memoriesOk = true) (h : execRData s = .next t) : t.memoriesOk = true := by
  cases h
  have read : s.aDrRead.memoriesOk = true := State.memoriesOk_of_mem_eq State.mem_eq hs
  have written : (s.aDrRead.writeByte .rbuf s.bte.ridx.toNat s.drReadValue).memoriesOk = true :=
    State.writeByte_memoriesOk _ s.bte.ridx.isLt read
  exact State.memoriesOk_of_mem_eq rfl written

theorem exec_bteCommand_memoriesOk {i : Instr} {s t : State} (hk : i.kind = .bteCommand) (hs : s.memoriesOk = true)
    (h : exec i s = .next t) : t.memoriesOk = true := by
  cases i with
  | bteInit | bteTransact | bteRget => cases h; exact State.whenIdle_memoriesOk hs (State.memoriesOk_of_mem_eq rfl hs)
  | bteWput idx byte => cases h; exact State.whenIdle_memoriesOk hs (State.writeByte_memoriesOk byte idx.isLt hs)
  | _ => cases hk

theorem exec_micro_memoriesOk {i : Instr} {s t : State} (hk : i.kind = .micro) (hs : s.memoriesOk = true)
    (h : exec i s = .next t) : t.memoriesOk = true := by
  by_cases hi : i = .rData
  · subst hi
    exact execRData_memoriesOk hs h
  · exact State.memoriesOk_of_mem_eq (exec_micro_busOnly hk hi h).mem hs

theorem exec_unitCommand_memoriesOk {i : Instr} {s t : State} (hk : i.kind = .unitCommand) (hs : s.memoriesOk = true)
    (h : exec i s = .next t) : t.memoriesOk = true := by
  cases i with
  | drsInit => cases h; exact State.initDisplay_memoriesOk hs
  | drsPut idx byte => cases h; exact State.putSlot_memoriesOk _ _ hs
  | stkInit =>
    cases h
    exact State.render_memoriesOk (State.memoriesOk_of_mem_eq rfl (State.initDisplay_memoriesOk hs))
  | stkTrigger =>
    cases h
    split
    · exact State.memoriesOk_of_mem_eq rfl hs
    · exact State.memoriesOk_of_mem_eq rfl hs
    · exact State.clearStopwatch_memoriesOk hs
  | _ => cases hk

theorem exec_event_memoriesOk {i : Instr} {s t : State} (hk : i.kind = .event) (hs : s.memoriesOk = true)
    (h : exec i s = .next t) : t.memoriesOk = true := by
  cases i with
  | evDispUpdate | evDispCompare | evSensorEdge => cases h; exact State.memoriesOk_of_mem_eq rfl hs
  | evTick =>
    obtain ⟨-, rfl⟩ := (execEvTick_next s t).1 h
    exact State.countTick_memoriesOk hs
  | _ => cases hk

theorem exec_memoriesOk {i : Instr} {s t : State} (hs : s.memoriesOk = true) (h : exec i s = .next t) :
    t.memoriesOk = true := by
  obtain (hk | hk) | hk | hk := kind_engineSide_or_unitSide i
  · exact exec_bteCommand_memoriesOk hk hs h
  · exact exec_micro_memoriesOk hk hs h
  · exact exec_unitCommand_memoriesOk hk hs h
  · exact exec_event_memoriesOk hk hs h

/-! ### What a turn does beside the instruction it runs -/

/-- From `s` to `t` the memories changed only by instructions: not at all, or by one, run between two updates that left them alone. -/
def AtMostOneRun (run : Instr → State → Result) (s t : State) : Prop :=
  t.mem = s.mem ∨ ∃ i u v, run i u = .next v ∧ u.mem = s.mem ∧ t.mem = v.mem

section
variable {run : Instr → State → Result} {s t : State}

theorem AtMostOneRun.of_run {i : Instr} {u : State} (h : run i u = .next t) (hu : u.mem = s.mem) : AtMostOneRun run s t :=
  .inr ⟨i, u, t, h, hu, rfl⟩

theorem State.raiseDisp_mem (s : State) (e : DispEvent) : (s.raiseDisp e).mem = s.mem := State.mem_eq

theorem State.injectWord_mem (s : State) (w : Word) : (s.injectWord w).mem = s.mem := by
  unfold State.injectWord
  split
  · exact s.raiseDisp_mem .update
  split
  · exact s.raiseDisp_mem .compare
  split
  · rfl
  split <;> rfl

theorem State.afterService_mem (s : State) (src : Source) : (s.afterService src).mem = s.mem := by cases src <;> rfl

theorem State.returnFrom_mem (s : State) (g : Giver) : (s.returnFrom g).mem = s.mem := by cases g <;> rfl

theorem seqTurn_atMostOneRun (h : seqTurn run s = .next t) : AtMostOneRun run s t := by
  unfold seqTurn at h
  split at h
  · exact .of_run h rfl
  · cases h

theorem dispatchTurn_atMostOneRun {tie : Source} {first : DispEvent} (h : dispatchTurn run tie first s = .next t) :
    AtMostOneRun run s t := by
  unfold dispatchTurn at h
  split at h
  · cases h; exact .inl rfl
  · next src _ =>
    obtain ⟨u, hrun, rfl⟩ := (thenState_next _ _ _).1 h
    exact .inr ⟨_, _, u, hrun, rfl, u.afterService_mem src⟩

theorem giveWord_atMostOneRun {g : Giver} {w : Word} (h : giveWord run g w s = .next t) : AtMostOneRun run s t := by
  unfold giveWord at h
  split at h
  · split at h
    · exact .of_run h rfl
    · cases h; exact .inl rfl
  · cases h; exact .inl rfl

theorem hostOp_atMostOneRun {g : Giver} {op : HostOp} (h : hostOp run g s op = .next t) : AtMostOneRun run s t := by
  cases op with
  | command w => exact giveWord_atMostOneRun h
  | edgeTest | freshTest | enableLine => cases h; exact .inl rfl
  | handlerReturn => cases h; exact .inl ((s.popOp g).returnFrom_mem g)

theorem hostTurn_atMostOneRun {g : Giver} (h : hostTurn run g s = .next t) : AtMostOneRun run s t := by
  unfold hostTurn at h
  split at h
  · cases h; exact .inl rfl
  · split at h
    · cases h; exact .inl rfl
    · exact hostOp_atMostOneRun h

/-- Reset apart, a turn changes the memories through at most one instruction. -/
theorem takeTurn_atMostOneRun {turn : Turn} (hr : turn ≠ .reset) (h : takeTurn run turn s = .next t) :
    AtMostOneRun run s t := by
  cases turn with
  | seq => exact seqTurn_atMostOneRun h
  | dispatch tie first => exact dispatchTurn_atMostOneRun h
  | host g => exact hostTurn_atMostOneRun h
  | biu | dispTimer | tickTimer => cases h; exact .inl State.mem_eq
  | sensorEdge | submit | boot | enableLine => cases h; exact .inl rfl
  | inject w => cases h; exact .inl (s.injectWord_mem w)
  | reset => exact absurd rfl hr

end

theorem AtMostOneRun.memoriesOk {s t : State} (h : AtMostOneRun exec s t) (hs : s.memoriesOk = true) : t.memoriesOk = true := by
  obtain hmem | ⟨i, u, v, hrun, hu, hv⟩ := h
  · exact State.memoriesOk_of_mem_eq hmem hs
  · have before : u.memoriesOk = true := State.memoriesOk_of_mem_eq hu hs
    exact State.memoriesOk_of_mem_eq hv (exec_memoriesOk before hrun)

/-- After reset nothing is listed in any memory. -/
theorem State.resetTurn_memoriesOk (s : State) : s.resetTurn.memoriesOk = true :=
  (State.memoriesOk_iff _).2 State.reset_memories_wf

/-- Settles O55: reset empties the memories, and any other turn changes them through at most one instruction, which keeps them
canonical. -/
theorem memoriesStayCanonical : Obligations.MemoriesStayCanonical := by
  intro s t hs h
  have dropped : s.dropTurn.memoriesOk = true := State.memoriesOk_of_mem_eq rfl hs
  change takeTurn exec s.turnNow s.dropTurn = .next t at h
  by_cases hr : s.turnNow = .reset
  · rw [hr] at h
    cases h
    exact s.dropTurn.resetTurn_memoriesOk
  · exact (takeTurn_atMostOneRun hr h).memoriesOk dropped

end Sys2Proof.Machine
end

section
/-! # Decoder and encoder (30_encoding.md R110 to R121)

The decoder and the encoder are inverse to each other. Each direction is proved from the fields of a word: a word is put together
again from its opcode and the fields of its format, and the decoder reads back the fields that the encoder wrote. What a decoded
operand is, and which words a command's mask and match select, then follow from the word being the encoder's. -/

namespace Sys2Proof

/-! ### The fields of a word as numbers (R118) -/

theorem Word.addrT_toNat (w : Word) : w.addrT.toNat = w.toNat / 2 ^ 16 % 2 ^ 7 := by
  simp [Word.addrT, Nat.shiftRight_eq_div_pow]

theorem Word.hiByte_toNat (w : Word) : w.hiByte.toNat = w.toNat / 2 ^ 8 % 2 ^ 8 := by
  simp [Word.hiByte, Nat.shiftRight_eq_div_pow]

theorem Word.loByte_toNat (w : Word) : w.loByte.toNat = w.toNat % 2 ^ 8 := by
  simp [Word.loByte]

/-! ### A word put together again from its fields (R111) -/

/-- The low `m` bits of a word and the `n` bits above them. -/
theorem bits_append_low (w : Word) (m n : Nat) : w.extractLsb' m n ++ w.extractLsb' 0 m = w.extractLsb' 0 (n + m) :=
  BitVec.extractLsb'_append_extractLsb'_eq_extractLsb' (Nat.zero_add m).symm

theorem encodeZ_of_fields {w : Word} {op : BitVec 8} (hop : w.op = op) (hz : w.zeroZ = 0) : encodeZ op = w := by
  have parts : w.op ++ w.zeroZ = w := by
    unfold Word.op Word.zeroZ
    rw [bits_append_low w 24 8, BitVec.extractLsb'_eq_self]
  rw [hop, hz] at parts
  exact parts

theorem encodeT_of_fields {w : Word} {op : BitVec 8} (hop : w.op = op) (hz : w.zeroT = 0) :
    encodeT op w.addrT w.hiByte w.loByte = w := by
  have parts : w.op ++ (w.zeroT ++ (w.addrT ++ (w.hiByte ++ w.loByte))) = w := by
    unfold Word.op Word.zeroT Word.addrT Word.hiByte Word.loByte
    rw [bits_append_low w 8 8, bits_append_low w 16 7, bits_append_low w 23 1, bits_append_low w 24 8, BitVec.extractLsb'_eq_self]
  rw [hop, hz] at parts
  exact parts

theorem encodeB_of_fields {w : Word} {op : BitVec 8} (hop : w.op = op) (hz : w.zeroB = 0) :
    encodeB op w.hiByte w.loByte = w := by
  have parts : w.op ++ (w.zeroB ++ (w.hiByte ++ w.loByte)) = w := by
    unfold Word.op Word.zeroB Word.hiByte Word.loByte
    rw [bits_append_low w 8 8, bits_append_low w 16 8, bits_append_low w 24 8, BitVec.extractLsb'_eq_self]
  rw [hop, hz] at parts
  exact parts

/-! ### What decodes has its word as its encoding -/

/-- `i` is well-formed and `c` is its encoding. -/
def EncodedAs (i : Instr) (c : Code) : Prop := i.wellFormed = true ∧ encode i = c

theorem decodeZ_encodedAs {w : Word} {op : BitVec 8} {i j : Instr} (hi : EncodedAs i (.word (encodeZ op)))
    (hop : w.op = op) (h : decodeZ w i = .ok j) : EncodedAs j (.word w) := by
  unfold decodeZ at h
  split at h
  · next hz =>
    cases h
    rwa [encodeZ_of_fields hop hz] at hi
  · cases h

theorem decodeCommand_encodedAs {w : Word} {i : Instr} (h : decodeCommand w = .ok i) : EncodedAs i (.word w) := by
  unfold decodeCommand at h
  split at h
  · exact decodeZ_encodedAs ⟨rfl, rfl⟩ ‹_› h
  split at h
  · split at h <;> cases h
    exact ⟨rfl, congrArg Code.word (encodeT_of_fields ‹_› ‹_›)⟩
  split at h
  · split at h <;> cases h
    exact ⟨rfl, congrArg Code.word (encodeB_of_fields ‹_› ‹_›)⟩
  split at h
  · split at h
    · split at h <;> cases h
      next hop hz hlo =>
        have whole := encodeB_of_fields hop hz
        rw [hlo] at whole
        exact ⟨rfl, congrArg Code.word whole⟩
    · cases h
  split at h
  · exact decodeZ_encodedAs ⟨rfl, rfl⟩ ‹_› h
  split at h
  · split at h
    · split at h <;> cases h
      next hop hz hidx => exact ⟨decide_eq_true hidx, congrArg Code.word (encodeB_of_fields hop hz)⟩
    · cases h
  split at h
  · exact decodeZ_encodedAs ⟨rfl, rfl⟩ ‹_› h
  split at h
  · exact decodeZ_encodedAs ⟨rfl, rfl⟩ ‹_› h
  split at h <;> cases h

theorem decodeEvent_encodedAs {w : Word} {i : Instr} (h : decodeEvent w = .ok i) : EncodedAs i (.word w) := by
  unfold decodeEvent at h
  iterate 4
    split at h
    · next hw =>
      cases h
      subst hw
      exact ⟨rfl, rfl⟩
  cases h

theorem decodeSeq_encodedAs {c : BitVec 5} {i : Instr} (h : decodeSeq c = .ok i) : EncodedAs i (.seq c) := by
  unfold decodeSeq at h
  split at h <;> cases h
  all_goals
    next hc => exact ⟨rfl, congrArg Code.seq (BitVec.eq_of_toNat_eq hc.symm)⟩

theorem decode_encodedAs {c : Code} {i : Instr} (h : decode c = .ok i) : EncodedAs i c := by
  cases c with
  | word w =>
    change decodeWord w = .ok i at h
    unfold decodeWord at h
    split at h
    · exact decodeEvent_encodedAs h
    · exact decodeCommand_encodedAs h
  | seq c => exact decodeSeq_encodedAs h

/-! ### The commands with operands, from the fields of the word (R112) -/

theorem decodeCommand_bteTransact {w : Word} (hop : w.op = 0x02#8) (hz : w.zeroT = 0) :
    decodeCommand w = .ok (.bteTransact w.addrT w.hiByte w.loByte) := by
  simp [decodeCommand, hop, hz]

theorem decodeCommand_bteWput {w : Word} (hop : w.op = 0x03#8) (hz : w.zeroB = 0) :
    decodeCommand w = .ok (.bteWput w.hiByte w.loByte) := by
  simp [decodeCommand, hop, hz]

theorem decodeCommand_bteRget {w : Word} (hop : w.op = 0x04#8) (hz : w.zeroB = 0) (hlo : w.loByte = 0) :
    decodeCommand w = .ok (.bteRget w.hiByte) := by
  simp [decodeCommand, hop, hz, hlo]

theorem decodeCommand_drsPut {w : Word} (hop : w.op = 0x11#8) (hz : w.zeroB = 0) (hidx : w.hiByte.toNat ≤ 3) :
    decodeCommand w = .ok (.drsPut w.hiByte w.loByte) := by
  simp [decodeCommand, hop, hz, hidx]

/-- A word whose opcode is no event code is decoded as a command. -/
theorem decodeWord_command {w : Word} {op : BitVec 8} (hop : w.op = op) (hc : ¬ (0x80 ≤ op.toNat ∧ op.toNat ≤ 0x83)) :
    decodeWord w = decodeCommand w := by
  subst hop
  simp [decodeWord, Word.isEvent, hc]

/-! ### Decoding an encoding -/

theorem decode_encode {i : Instr} (h : i.wellFormed = true) : decode (encode i) = .ok i := by
  cases i with
  | bteTransact addr m n =>
    have hop : (encodeT 0x02#8 addr m n).op = 0x02#8 := encodeT_op ..
    calc decodeWord (encodeT 0x02#8 addr m n)
      _ = decodeCommand (encodeT 0x02#8 addr m n) := decodeWord_command hop (by decide)
      _ = _ := decodeCommand_bteTransact hop (encodeT_zeroT ..)
      _ = .ok (.bteTransact addr m n) := by simp
  | bteWput idx byte =>
    have hop : (encodeB 0x03#8 idx byte).op = 0x03#8 := encodeB_op ..
    calc decodeWord (encodeB 0x03#8 idx byte)
      _ = decodeCommand (encodeB 0x03#8 idx byte) := decodeWord_command hop (by decide)
      _ = _ := decodeCommand_bteWput hop (encodeB_zeroB ..)
      _ = .ok (.bteWput idx byte) := by simp
  | bteRget idx =>
    have hop : (encodeB 0x04#8 idx 0#8).op = 0x04#8 := encodeB_op ..
    calc decodeWord (encodeB 0x04#8 idx 0#8)
      _ = decodeCommand (encodeB 0x04#8 idx 0#8) := decodeWord_command hop (by decide)
      _ = _ := decodeCommand_bteRget hop (encodeB_zeroB ..) (encodeB_loByte ..)
      _ = .ok (.bteRget idx) := by simp
  | drsPut idx byte =>
    have hop : (encodeB 0x11#8 idx byte).op = 0x11#8 := encodeB_op ..
    have hidx : (encodeB 0x11#8 idx byte).hiByte.toNat ≤ 3 := by simpa [Instr.wellFormed] using h
    calc decodeWord (encodeB 0x11#8 idx byte)
      _ = decodeCommand (encodeB 0x11#8 idx byte) := decodeWord_command hop (by decide)
      _ = _ := decodeCommand_drsPut hop (encodeB_zeroB ..) hidx
      _ = .ok (.drsPut idx byte) := by simp
  | _ => rfl

/-! ### Mask and match (R112) -/

/-- A field that lies under the mask is the match value's field. -/
theorem field_of_masked {w mask pattern : Word} (lo len : Nat) (hmask : mask.extractLsb' lo len = BitVec.allOnes len)
    (h : w &&& mask = pattern) : w.extractLsb' lo len = pattern.extractLsb' lo len := by
  rw [← h, BitVec.extractLsb'_and, hmask, BitVec.and_allOnes]

theorem encode_covered {i : Instr} (h : i.wellFormed = true) : i.tableRow.covers (encode i) = true := by
  cases i with
  | bteTransact addr m n => exact Laws.EncodingCarriesTableBits.bteTransact addr m n h
  | bteWput idx byte => exact Laws.EncodingCarriesTableBits.bteWput idx byte h
  | bteRget idx => exact Laws.EncodingCarriesTableBits.bteRget idx h
  | drsPut idx byte => exact Laws.EncodingCarriesTableBits.drsPut idx byte h
  | _ => rfl

theorem masked_of_decodeCommand {w mask pattern : Word} {i : Instr} (hrow : i.tableRow = .word mask pattern)
    (h : decodeCommand w = .ok i) : w &&& mask = pattern := by
  obtain ⟨hwf, henc⟩ := decodeCommand_encodedAs h
  have hcov := encode_covered hwf
  rw [hrow, henc] at hcov
  exact of_decide_eq_true hcov

/-- A command without operands is the one word of its row. -/
theorem decodeCommand_iff_word {w pattern : Word} {i : Instr} (hrow : i.tableRow = .word 0xFFFFFFFF#32 pattern)
    (hp : decodeCommand pattern = .ok i) : decodeCommand w = .ok i ↔ w &&& 0xFFFFFFFF#32 = pattern := by
  refine ⟨masked_of_decodeCommand hrow, fun h => ?_⟩
  have hw : w = pattern := w.and_allOnes.symm.trans h
  rwa [hw]

theorem bteTransact_iff_masked (w : Word) :
    (∃ a m n, decodeCommand w = .ok (.bteTransact a m n)) ↔ w &&& 0xFF800000#32 = 0x02000000#32 := by
  refine ⟨fun ⟨a, m, n, h⟩ => masked_of_decodeCommand rfl h, fun h => ?_⟩
  have hop : w.op = 0x02#8 := field_of_masked 24 8 rfl h
  have hz : w.zeroT = 0 := field_of_masked 23 1 rfl h
  exact ⟨_, _, _, decodeCommand_bteTransact hop hz⟩

theorem bteWput_iff_masked (w : Word) :
    (∃ i b, decodeCommand w = .ok (.bteWput i b)) ↔ w &&& 0xFFFF0000#32 = 0x03000000#32 := by
  refine ⟨fun ⟨i, b, h⟩ => masked_of_decodeCommand rfl h, fun h => ?_⟩
  have hop : w.op = 0x03#8 := field_of_masked 24 8 rfl h
  have hz : w.zeroB = 0 := field_of_masked 16 8 rfl h
  exact ⟨_, _, decodeCommand_bteWput hop hz⟩

theorem bteRget_iff_masked (w : Word) :
    (∃ i, decodeCommand w = .ok (.bteRget i)) ↔ w &&& 0xFFFF00FF#32 = 0x04000000#32 := by
  refine ⟨fun ⟨i, h⟩ => masked_of_decodeCommand rfl h, fun h => ?_⟩
  have hop : w.op = 0x04#8 := field_of_masked 24 8 rfl h
  have hz : w.zeroB = 0 := field_of_masked 16 8 rfl h
  have hlo : w.loByte = 0 := field_of_masked 0 8 rfl h
  exact ⟨_, decodeCommand_bteRget hop hz hlo⟩

/-- An index is at most 3 exactly when `CMD[15:10]` is 0. -/
theorem hiByte_le_three {w : Word} (h : w.extractLsb' 10 6 = 0#6) : w.hiByte.toNat ≤ 3 := by
  have high : w.toNat / 2 ^ 10 % 2 ^ 6 = 0 := by
    simpa [Nat.shiftRight_eq_div_pow] using congrArg BitVec.toNat h
  rw [w.hiByte_toNat]
  omega

theorem drsPut_iff_masked (w : Word) :
    (∃ i b, decodeCommand w = .ok (.drsPut i b)) ↔ w &&& 0xFFFFFC00#32 = 0x11000000#32 := by
  refine ⟨fun ⟨i, b, h⟩ => masked_of_decodeCommand rfl h, fun h => ?_⟩
  have hop : w.op = 0x11#8 := field_of_masked 24 8 rfl h
  have hz : w.zeroB = 0 := field_of_masked 16 8 rfl h
  have hidx : w.hiByte.toNat ≤ 3 := hiByte_le_three (field_of_masked 10 6 rfl h)
  exact ⟨_, _, decodeCommand_drsPut hop hz hidx⟩

/-! ### The operands of a decoded word as numbers (R118) -/

theorem encodeT_operands {op m n : BitVec 8} {addr : BitVec 7} {w : Word} (h : encodeT op addr m n = w) :
    addr.toNat = w.toNat / 2 ^ 16 % 2 ^ 7 ∧ m.toNat = w.toNat / 2 ^ 8 % 2 ^ 8 ∧ n.toNat = w.toNat % 2 ^ 8 := by
  subst h
  rw [← Word.addrT_toNat, ← Word.hiByte_toNat, ← Word.loByte_toNat]
  simp

theorem encodeB_operands {op idx byte : BitVec 8} {w : Word} (h : encodeB op idx byte = w) :
    idx.toNat = w.toNat / 2 ^ 8 % 2 ^ 8 ∧ byte.toNat = w.toNat % 2 ^ 8 := by
  subst h
  rw [← Word.hiByte_toNat, ← Word.loByte_toNat]
  simp

theorem encode_eq_of_decodeCommand {w v : Word} {i : Instr} (hi : encode i = .word v) (h : decodeCommand w = .ok i) :
    v = w :=
  Code.word.inj (hi.symm.trans (decodeCommand_encodedAs h).2)

/-! ### Assigned and reserved sequencer codes (R114, R121) -/

theorem decodeSeq_assigned {c : BitVec 5} (hc : c.toNat ≤ 0x13) : ∃ i, decodeSeq c = .ok i := by
  unfold decodeSeq
  interval_cases c.toNat <;> exact ⟨_, rfl⟩

theorem decodeSeq_reserved {c : BitVec 5} (hc : 0x14 ≤ c.toNat) : decodeSeq c = .error (.reservedSeqCode c) := by
  unfold decodeSeq
  split
  case h_21 => rfl
  all_goals omega

end Sys2Proof

namespace Sys2Proof.Machine

/-! ### Turns that meet a reserved word or code, and an accepted transaction -/

theorem State.dropTurn_of_agenda {s : State} {t : Turn} {rest : List Turn} (h : s.env.agenda = t :: rest) :
    s.dropTurn = { s with env := { s.env with agenda := rest } } := by
  simp [State.dropTurn, h]

theorem State.popOp_of_prog {s : State} {g : Giver} {op : HostOp} {ops : List HostOp}
    (h : (s.context g).prog = op :: ops) :
    s.popOp g = { s with ctx := { s.ctx.set g { s.context g with prog := ops } with giver := g } } := by
  change (s.ctx.get g).prog = op :: ops at h
  simp [State.popOp, State.context, h]

theorem giveWord_reserved {w : Word} {why : DecodeRefusal} (h : decodeCommand w = .error why)
    (run : Instr → State → Result) (g : Giver) (s : State) : giveWord run g w s = .next (s.popOp g) := by
  simp [giveWord, h]

theorem seqTurn_reserved {s : State} (h : 0x14 ≤ s.bte.seq.toNat) (run : Instr → State → Result) :
    seqTurn run s = .fault (.reservedSeq s.bte.seq) := by
  simp [seqTurn, decodeSeq_reserved h]

theorem exec_bteTransact_idle {s : State} (h : s.bte.seq = Seq.idle) (addr : BitVec 7) (m n : BitVec 8) :
    exec (.bteTransact addr m n) s = .next (s.beginTransaction addr m n) :=
  congrArg Host.Outcome.next (s.whenIdle_idle (fun t => t.beginTransaction addr m n) h)

/-! ### The obligations -/

/-- Settles O2: the decoder reads back the fields the encoder wrote. -/
theorem decodeOfEncode : Obligations.DecodeOfEncode := fun _ h => decode_encode h

/-- Settles O3: the fields the decoder read, put together again, are the whole word. -/
theorem encodeOfDecode : Obligations.EncodeOfDecode := fun _ _ h => decode_encodedAs h

/-- Settles O4: an encoding has the bits of its row, and those bits are what the decoder asks of the word. -/
theorem commandTableDecides : Obligations.CommandTableDecides := fun w =>
  ⟨decodeCommand_iff_word rfl rfl, bteTransact_iff_masked w, bteWput_iff_masked w, bteRget_iff_masked w,
    decodeCommand_iff_word rfl rfl, drsPut_iff_masked w, decodeCommand_iff_word rfl rfl, decodeCommand_iff_word rfl rfl⟩

/-- Settles O5: the word is the encoding of what it decodes to, whose fields are the operands. -/
theorem operandsAreWordFields : Obligations.OperandsAreWordFields := by
  refine ⟨fun w a m n h => ⟨encodeT_operands (encode_eq_of_decodeCommand rfl h), fun s hidle => ?_⟩,
    fun w i b h => encodeB_operands (encode_eq_of_decodeCommand rfl h),
    fun w i b h => encodeB_operands (encode_eq_of_decodeCommand rfl h),
    fun w i h => (encodeB_operands (encode_eq_of_decodeCommand rfl h)).1⟩
  exact ⟨_, exec_bteTransact_idle hidle a m n, rfl, rfl, rfl⟩

/-- Settles O6: a reserved word only leaves its giver's list; the decoder takes every code up to 0x13 and, on the sequencer's turn,
rejects every code from 0x14. -/
theorem reservedEncodings : Obligations.ReservedEncodings := by
  refine ⟨fun s g rest w ops why hturn hfree hprog hres => ?_, fun c hc => ?_, fun s rest hturn hseq => ?_⟩
  · calc step s
      _ = hostTurn exec g s.dropTurn := step_of_turn s (.host g) rest hturn
      _ = giveWord exec g w s.dropTurn := hostTurn_word exec g s.dropTurn w ops hfree hprog
      _ = .next (s.dropTurn.popOp g) := giveWord_reserved hres exec g s.dropTurn
      _ = _ := by rw [State.popOp_of_prog (s := s.dropTurn) hprog, State.dropTurn_of_agenda hturn]; rfl
  · obtain ⟨i, hi⟩ := decodeSeq_assigned hc
    exact ⟨i, hi, decodeSeq_kind c i hi, (decodeSeq_encodedAs hi).2⟩
  · calc step s
      _ = seqTurn exec s.dropTurn := step_of_turn s .seq rest hturn
      _ = .fault (.reservedSeq s.bte.seq) := seqTurn_reserved (s := s.dropTurn) hseq exec

/-- Settles O1: each of the ten is the encoding of its instruction, so it decodes to it. -/
theorem writtenWordsDecode : Obligations.WrittenWordsDecode :=
  ⟨decode_encode (i := .bteInit) rfl, decode_encode (i := .bteTransact 0x29#7 2#8 1#8) rfl,
    decode_encode (i := .bteTransact 0x50#7 1#8 3#8) rfl, decode_encode (i := .bteWput 255#8 0xAA#8) rfl,
    decode_encode (i := .bteRget 3#8) rfl, decode_encode (i := .drsPut 2#8 0xBF#8) rfl,
    decode_encode (i := .stkTrigger) rfl, decode_encode (i := .evDispCompare) rfl,
    decode_encode (i := .wData) rfl, decode_encode (i := .rStage) rfl⟩

end Sys2Proof.Machine
end

section
/-! # What each instruction of the bus transaction engine does (40_bus_transaction_engine.md)

One equation for each operation the commands and micro-operations are made of, in the form the statements use; then, for the sequencer,
when it has an enabled step and what it writes to `SEQ`; then the turns that run an instruction. -/

namespace Sys2Proof.Machine

/-! ### Commands: held while `BUSY` = 1, taken in `IDLE` (R141 to R145) -/

/-- A BTE command given while `BUSY` = 1 has no effect (R145). -/
theorem exec_bteCommand_busy {s : State} {i : Instr} (hk : i.kind = .bteCommand) (h : s.bte.seq ≠ Seq.idle) :
    exec i s = .next s := by
  cases i with
  | bteInit | bteTransact | bteWput | bteRget => exact congrArg Host.Outcome.next (s.whenIdle_busy _ h)
  | _ => cases hk

theorem exec_bteInit_idle {s : State} (h : s.bte.seq = Seq.idle) : exec .bteInit s = .next s.initEngine :=
  congrArg Host.Outcome.next (s.whenIdle_idle _ h)

theorem exec_bteWput_idle {s : State} (h : s.bte.seq = Seq.idle) (idx : BitVec 8) (byte : Byte) :
    exec (.bteWput idx byte) s = .next (s.writeByte .wbuf idx.toNat byte) :=
  congrArg Host.Outcome.next (s.whenIdle_idle _ h)

theorem exec_bteRget_idle {s : State} (h : s.bte.seq = Seq.idle) (idx : BitVec 8) :
    exec (.bteRget idx) s = .next (s.respond (s.loadByte .rbuf idx.toNat)) :=
  congrArg Host.Outcome.next (s.whenIdle_idle _ h)

theorem exec_bteRget_written {s : State} {idx : BitVec 8} {v : Byte} (h : s.bte.seq = Seq.idle)
    (hv : s.readByte .rbuf idx.toNat = some v) : exec (.bteRget idx) s = .next (s.respond v) := by
  rw [exec_bteRget_idle h, s.loadByte_of_readByte .rbuf idx.toNat v hv]

theorem Contexts.set_set (c : Contexts) (g : Giver) (x y : HostCtx) : (c.set g x).set g y = c.set g y := by
  cases g <;> rfl

theorem Contexts.get_set (c : Contexts) (g : Giver) (x : HostCtx) : (c.set g x).get g = x := by
  cases g <;> rfl

theorem Contexts.set_giver (c : Contexts) (g : Giver) (x : HostCtx) : (c.set g x).giver = c.giver := by
  cases g <;> rfl

theorem State.respond_respond (s : State) (v : Byte) : (s.respond v).respond v = s.respond v := by
  simp [State.respond, State.setContext, State.context, Contexts.set_set, Contexts.get_set, Contexts.set_giver]

theorem toNat_pos_iff (m : BitVec 8) : 0 < m.toNat ↔ m ≠ 0#8 := by
  rw [Nat.pos_iff_ne_zero, ne_eq, ne_eq, ← BitVec.toNat_inj]
  rfl

theorem firstMicro_eq (m n : BitVec 8) :
    firstMicro m n = if m ≠ 0#8 then Seq.wStart else if n ≠ 0#8 then Seq.rStart else Seq.done := by
  simp only [firstMicro, toNat_pos_iff]

/-! ### Micro-operations: the actions on the BIU (R182 to R188) -/

/-- An action of the engine is one operation on the BIU and then the write of `SEQ`. -/
theorem next_setSeq {t u : State} (h : t = u) (c : BitVec 5) :
    (Host.Outcome.next (t.setSeq c) : Result) = .next (u.setSeq c) := by
  rw [h]

theorem preArmedAck_eq (n : BitVec 8) : preArmedAck n = if n = 1#8 then false else true := by
  simp [preArmedAck]

theorem State.aClrAddr_eq (s : State) :
    s.aClrAddr = { s with biu :=
      if s.biu.mode = .addrTx then { s.biu with addr := false, mode := .tx, txe := true }
      else if s.biu.mode = .addrRx then { s.biu with addr := false, mode := .rx, ackl := s.biu.acken }
      else { s.biu with addr := false } } := by
  unfold State.aClrAddr Biu.flagsClrAddr
  split <;> simp [*]

/-- A requested stop is enabled exactly where it can go on the bus at once (R188). -/
theorem Biu.stopEnabled_iff (b : Biu) : b.stopEnabled = true ↔ b.stopreq = true ∧ b.stopCanGo := by
  simp [Biu.stopEnabled, Biu.drained, Biu.stopCanGo, and_assoc]

theorem State.aStop_sent {s : State} (h : s.biu.stopCanGo) :
    s.aStop = { s with
      biu := { s.biu with mode := .idle, claim := false, stopreq := false, txe := false, btf := false },
      wire := s.wire ++ [.stop] } := by
  have enabled : ({ s.biu with stopreq := true } : Biu).stopEnabled = true := (Biu.stopEnabled_iff _).2 ⟨rfl, h⟩
  exact if_pos enabled

theorem State.aStop_waits {s : State} (h : ¬ s.biu.stopCanGo) :
    s.aStop = { s with biu := { s.biu with stopreq := true } } := by
  have notEnabled : ¬ ({ s.biu with stopreq := true } : Biu).stopEnabled = true :=
    fun he => h ((Biu.stopEnabled_iff _).1 he).2
  exact if_neg notEnabled

theorem isStaging_iff (e : Bte) : isStaging e.ridx e.rlen = true ↔ e.stages := by
  simp [isStaging, Bte.stages, ← BitVec.toNat_inj]

theorem exec_rStage_staging {s : State} (h : s.bte.stages) : exec .rStage s = .next (s.stageEnd.setSeq Seq.rWaitRxne) := by
  simp [exec, execRStage, (isStaging_iff s.bte).2 h]

theorem exec_rStage_passing {s : State} (h : ¬ s.bte.stages) : exec .rStage s = .next (s.setSeq Seq.rWaitRxne) := by
  simp [exec, execRStage, mt (isStaging_iff s.bte).1 h]

/-! ### When the sequencer has an enabled step (R146, R150) -/

/-- Has a micro-operation an enabled step: a wait when its flag is 1, an action always, `IDLE` never. -/
def microReady (b : Biu) : Instr → Bool
  | .idle => false
  | .wWaitSb | .rWaitSb => b.sb
  | .wWaitAddr | .rWaitAddr => b.addr
  | .wWaitTxe => b.txe
  | .wWaitBtf => b.btf
  | .rWaitRxne => b.rxne
  | _ => true

/-- `SEQ` holds a micro-operation's code, the code of the one it decodes to. -/
theorem decodeSeq_micro {c : BitVec 5} {i : Instr} (h : decodeSeq c = .ok i) : i.kind = .micro ∧ encode i = .seq c :=
  ⟨decodeSeq_kind c i h, (decodeSeq_encodedAs h).2⟩

theorem seqReady_eq_microReady {c : BitVec 5} {i : Instr} (h : decodeSeq c = .ok i) (b : Biu) :
    seqReady c b = microReady b i := by
  obtain ⟨hk, hc⟩ := decodeSeq_micro h
  cases i <;> cases hk <;> cases hc <;> rfl

/-- A micro-operation with no enabled step changes nothing. -/
theorem exec_of_not_microReady {s : State} {i : Instr} (h : microReady s.biu i = false) : exec i s = .next s := by
  cases i with
  | idle => rfl
  | wWaitSb | wWaitAddr | wWaitTxe | wWaitBtf | rWaitSb | rWaitAddr | rWaitRxne =>
    exact congrArg (fun flag => Host.Outcome.next (s.waitThen flag _)) h
  | _ => cases h

/-- Without an enabled step `SEQ` holds a legal code: a reserved code is not waited at. -/
theorem decodeSeq_of_not_seqReady {c : BitVec 5} {b : Biu} (h : seqReady c b = false) : ∃ i, decodeSeq c = .ok i := by
  unfold seqReady at h
  split_ifs at h with h0 h1 h2 h3 h4 h5 h6 h7
  all_goals subst c; exact ⟨_, rfl⟩

theorem exec_of_not_seqReady {s : State} {i : Instr} (hd : decodeSeq s.bte.seq = .ok i)
    (h : seqReady s.bte.seq s.biu = false) : exec i s = .next s :=
  exec_of_not_microReady ((seqReady_eq_microReady hd s.biu).symm.trans h)

/-! ### What a micro-operation writes to `SEQ` (R171) -/

/-- No micro-operation is its own successor. -/
theorem seqSuccessor_ne {e : Bte} {i : Instr} {c d : BitVec 5} (hi : encode i = .seq c) (h : seqSuccessor e i = some d) :
    d ≠ c := by
  cases i <;> cases hi <;> cases h
  case wData | wWaitBtf | rData => split <;> decide
  all_goals decide

/-- A micro-operation with an enabled step writes the successor the table gives for the registers as it leaves them. -/
theorem exec_writes_successor {s t : State} {i : Instr} (hk : i.kind = .micro) (hr : microReady s.biu i = true)
    (h : exec i s = .next t) : seqSuccessor t.bte i = some t.bte.seq := by
  cases i with
  | idle => cases hr
  | wWaitSb | wWaitAddr | wWaitTxe | rWaitSb | rWaitAddr | rWaitRxne =>
    simp only [microReady] at hr
    cases h
    simp [hr, seqSuccessor]
  | wWaitBtf =>
    simp only [microReady] at hr
    cases h
    simp [hr, seqSuccessor, afterWriteDrained, ← BitVec.toNat_inj]
  | wStart | rStart | rAckpol | rStage | done => cases h; simp [seqSuccessor]
  | wAddr | rAddr | wClrAddr | rClrAddr | wData | wStop | rData => cases h; simp [seqSuccessor, afterWData, afterRData]
  | _ => cases hk

theorem firstMicro_ne_idle (m n : BitVec 8) : firstMicro m n ≠ Seq.idle := by
  rw [firstMicro_eq]
  split_ifs <;> decide

/-! ### Turns that run an instruction (10_state.md R30) -/

theorem step_seqTurn {s : State} {rest : List Turn} {i : Instr} (hturn : s.env.agenda = .seq :: rest)
    (hd : decodeSeq s.bte.seq = .ok i) : step s = exec i s.dropTurn := by
  have decoded : seqTurn exec s.dropTurn = exec i s.dropTurn := by simp [seqTurn, hd]
  exact (step_of_turn s .seq rest hturn).trans decoded

/-- The port takes a BTE command in `IDLE` and any other instruction always (R145). -/
theorem State.accepts_iff (s : State) (i : Instr) : s.accepts i = true ↔ (i.kind = .bteCommand → s.bte.seq = Seq.idle) := by
  unfold State.accepts
  cases i.kind <;> simp [State.busy]

theorem giveWord_accepted {s : State} {w : Word} {i : Instr} (hd : decodeCommand w = .ok i)
    (ha : i.kind = .bteCommand → s.bte.seq = Seq.idle) (run : Instr → State → Result) (g : Giver) :
    giveWord run g w s = run i (s.popOp g) := by
  simp [giveWord, hd, (s.accepts_iff i).2 ha]

theorem giveWord_held {s : State} {w : Word} {i : Instr} (hd : decodeCommand w = .ok i)
    (hk : i.kind = .bteCommand) (hs : s.bte.seq ≠ Seq.idle) (run : Instr → State → Result) (g : Giver) :
    giveWord run g w s = .next s := by
  have refused : ¬ s.accepts i = true := fun ha => hs ((s.accepts_iff i).1 ha hk)
  simp [giveWord, hd, refused]

/-- A giver at a word gives it in its turn. -/
theorem step_giveWord {s : State} {g : Giver} {rest : List Turn} {w : Word} {ops : List HostOp}
    (hturn : s.env.agenda = .host g :: rest) (hfree : (s.context g).awaiting = false)
    (hprog : (s.context g).prog = .command w :: ops) : step s = giveWord exec g w s.dropTurn :=
  (step_of_turn s (.host g) rest hturn).trans (hostTurn_word exec g s.dropTurn w ops hfree hprog)

/-- A command word is no event word. -/
theorem not_isEvent_of_decodeCommand {w : Word} {i : Instr} (h : decodeCommand w = .ok i) : w.isEvent = false := by
  obtain ⟨-, hw⟩ := decodeCommand_encodedAs h
  have hk := decodeCommand_kind w i h
  cases i with
  | bteTransact | bteWput | bteRget | drsPut => cases hw; simp [Word.isEvent]
  | evDispUpdate | evDispCompare | evTick | evSensorEdge => simp [Instr.kind] at hk
  | _ => cases hw <;> rfl

/-! ### The dispatcher's turn (60_exceptions.md R289 to R293) -/

theorem State.masked_eq_false_iff (s : State) (src : Source) :
    s.masked src = false ↔ ∀ other : Source, s.irq.insvc.get other = true → s.urgency src < s.urgency other := by
  have all (P : Source → Prop) : (∀ o, P o) ↔ P .disp ∧ P .tick ∧ P .edge :=
    ⟨fun h => ⟨h _, h _, h _⟩, fun ⟨hd, ht, he⟩ o => by cases o <;> assumption⟩
  rw [all]
  simp [State.masked, Lines.get, and_assoc]

theorem State.eligible_iff (s : State) (src : Source) : s.eligible src = true ↔ s.eligibleFor src := by
  simp [State.eligible, State.eligibleFor, ← State.masked_eq_false_iff, and_assoc]

theorem State.mayServe_of_mostUrgent {s : State} {src : Source} (h : s.mostUrgent src) : s.mayServe src = true := by
  obtain ⟨heligible, hleast⟩ := h
  have least (other : Source) : s.eligible other = false ∨ s.urgency src ≤ s.urgency other := by
    cases he : s.eligible other
    · exact .inl rfl
    · exact .inr (hleast other ((s.eligible_iff other).1 he))
  simp [State.mayServe, (s.eligible_iff src).2 heligible, least]

theorem State.served_of_mostUrgent {s : State} {src : Source} (h : s.mostUrgent src) : s.served src = some src := by
  simp [State.served, State.mayServe_of_mostUrgent h]

theorem State.eventOf_eq_handlerOf {s : State} {src : Source} (h : s.pending src = true) (picked : DispEvent) :
    s.eventOf picked src = s.handlerOf picked src := by
  cases src with
  | tick | edge => rfl
  | disp =>
    change (s.drs.uif || s.drs.ccif) = true at h
    unfold State.eventOf State.handlerOf
    cases hu : s.drs.uif <;> cases hc : s.drs.ccif <;> cases picked <;> simp_all

/-- A handler has a next state, but for a tick that cannot be counted. -/
theorem exec_handlerOf_next (s u : State) (src : Source) (picked : DispEvent) (h : src = .tick → u.canCount = true) :
    ∃ v, exec (s.handlerOf picked src) u = .next v := by
  cases src with
  | disp =>
    unfold State.handlerOf
    dsimp only
    split_ifs <;> exact ⟨_, rfl⟩
  | tick => exact ⟨_, (execEvTick_next u _).2 ⟨h rfl, rfl⟩⟩
  | edge => exact ⟨_, rfl⟩

theorem State.afterService_eq (u : State) (src : Source) :
    u.afterService src = if src = .edge then u else { u with irq := { u.irq with insvc := u.irq.insvc.set src false } } := by
  cases src <;> rfl

theorem dispatchTurn_servedTo {s : State} {src : Source} (h : s.mostUrgent src) (picked : DispEvent)
    (hc : src = .tick → s.canCount = true) :
    ∃ t, dispatchTurn exec src picked s = .next t ∧ s.servedTo src picked t := by
  obtain ⟨u, hu⟩ := exec_handlerOf_next s (s.enterHandler src) src picked hc
  refine ⟨u.afterService src, ?_, u, hu, u.afterService_eq src⟩
  have pending : s.pending src = true := h.1.1
  simp [dispatchTurn, State.served_of_mostUrgent h, State.eventOf_eq_handlerOf pending, hu, thenState]

/-! ### The obligations -/

/-- Settles O7: each agent's turn, taken apart as far as the instruction it runs; after reset the placed instruction is what the
turn that is due finds. -/
theorem stepRunsDecodedInstruction : Obligations.StepRunsDecodedInstruction := by
  refine ⟨fun s rest i hturn hd => step_seqTurn hturn hd, fun s g rest w ops i hturn hfree hprog hd ha => ?_,
    fun s src picked rest hturn hsrc hc => ?_, fun w i hd => ?_, fun c i hd => ?_⟩
  · exact (step_giveWord hturn hfree hprog).trans (giveWord_accepted (s := s.dropTurn) hd ha exec g)
  · obtain ⟨t, ht, hserved⟩ := dispatchTurn_servedTo (s := s.dropTurn) hsrc picked hc
    exact ⟨t, (step_of_turn s _ rest hturn).trans ht, hserved⟩
  · have placed : State.reset.withFetchWord 32 w.toNat = State.reset.placeCommand w := by
      simp [State.withFetchWord, State.placeInstr, not_isEvent_of_decodeCommand hd]
    rw [placed]
    exact (step_giveWord rfl rfl rfl).trans (giveWord_accepted hd (fun _ => rfl) exec .main)
  · have placed : State.reset.withFetchWord 8 c.toNat = State.reset.placeSeq c := by
      simp [State.withFetchWord, State.placeInstr]
    rw [placed]
    exact step_seqTurn rfl hd

/-- Settles O8: the port holds a BTE command exactly while `SEQ` is not `IDLE`. -/
theorem busyHoldsBteCommands : Obligations.BusyHoldsBteCommands := by
  refine ⟨fun s i hk hs => exec_bteCommand_busy hk hs,
    fun s g rest w ops i hturn hfree hprog hd => ⟨fun hk hs => ?_, fun hk => ?_⟩⟩
  · calc step s
      _ = giveWord exec g w s.dropTurn := step_giveWord hturn hfree hprog
      _ = .next s.dropTurn := giveWord_held (s := s.dropTurn) hd hk hs exec g
      _ = _ := by rw [State.dropTurn_of_agenda hturn]
  · have notBte : i.kind ≠ .bteCommand := by simp [hk]
    exact (step_giveWord hturn hfree hprog).trans (giveWord_accepted hd (fun hb => absurd hb notBte) exec g)

/-- Settles O9. -/
theorem bteInitResetsEngine : Obligations.BteInitResetsEngine := fun _ =>
  ⟨fun hidle => exec_bteInit_idle hidle, fun hbusy => exec_bteCommand_busy rfl hbusy⟩

/-- Settles O10: `WBUF`'s unlisted entries hold no value, so the write needs no canonical form to be read back. -/
theorem bteWputStoresByte : Obligations.BteWputStoresByte := by
  refine fun s idx byte => ⟨fun hidle => ⟨_, exec_bteWput_idle hidle idx byte, rfl, ?_, fun j hj => ?_⟩,
    fun hbusy => exec_bteCommand_busy rfl hbusy⟩
  · exact Memory.read_write_same_of_unlisted .wbuf s.wbuf idx.toNat byte rfl
  · exact s.readByte_writeByte_other .wbuf .wbuf idx.toNat j byte (.inr hj.symm)

/-- Settles O11: the second answer finds the entry and the answer of the first. -/
theorem bteRgetAnswersByte : Obligations.BteRgetAnswersByte := by
  intro s idx v hidle hv
  refine ⟨s.respond v, exec_bteRget_written hidle hv, ?_, rfl⟩
  calc exec (.bteRget idx) (s.respond v)
    _ = .next ((s.respond v).respond v) := exec_bteRget_written (s := s.respond v) hidle hv
    _ = .next (s.respond v) := by rw [s.respond_respond]

/-- Settles O12. -/
theorem bteTransactBegins : Obligations.BteTransactBegins := by
  refine ⟨fun s addr m n => ⟨fun hidle => ?_, fun hbusy => exec_bteCommand_busy rfl hbusy⟩, fun s g rest hturn hheld => ?_⟩
  · rw [exec_bteTransact_idle hidle, ← firstMicro_eq]
    rfl
  · calc step s
      _ = hostTurn exec g s.dropTurn := step_of_turn s (.host g) rest hturn
      _ = .next s.dropTurn := hostTurn_awaiting exec g s.dropTurn hheld
      _ = _ := by rw [State.dropTurn_of_agenda hturn]

/-- Settles O13. -/
theorem requestsSetOneBit : Obligations.RequestsSetOneBit := by
  intro s
  refine ⟨rfl, rfl, ?_⟩
  rw [← preArmedAck_eq]
  rfl

/-- Settles O14: the seven waits are `waitThen` on their flags, and the sequencer's turn runs what `SEQ` decodes to. -/
theorem waitsFollowTheirFlags : Obligations.WaitsFollowTheirFlags := by
  refine ⟨fun s => ⟨rfl, rfl, rfl, rfl, rfl, rfl, rfl, rfl⟩,
    fun b => ⟨rfl, rfl, rfl, rfl, rfl, rfl, rfl, rfl, fun c hc => ?_⟩, fun s rest i hturn hd => ?_, fun s rest hturn hr => ?_⟩
  · fin_cases hc <;> rfl
  · rw [step_seqTurn hturn hd, State.dropTurn_of_agenda hturn]
  · obtain ⟨i, hd⟩ := decodeSeq_of_not_seqReady hr
    calc step s
      _ = exec i s.dropTurn := step_seqTurn hturn hd
      _ = .next s.dropTurn := exec_of_not_seqReady (s := s.dropTurn) hd hr
      _ = _ := by rw [State.dropTurn_of_agenda hturn]

/-- Settles O15. -/
theorem addressBytesHandedOver : Obligations.AddressBytesHandedOver := by
  intro s hfree
  exact ⟨next_setSeq (s.aDrWrite_free _ hfree) _, next_setSeq (s.aDrWrite_free _ hfree) _⟩

/-- Settles O16. -/
theorem addressConsumed : Obligations.AddressConsumed := by
  rintro s b rfl
  exact ⟨next_setSeq s.aClrAddr_eq _, next_setSeq s.aClrAddr_eq _⟩

/-- Settles O17. -/
theorem writeByteHandedOver : Obligations.WriteByteHandedOver := by
  intro s b hfree hb
  change Host.Outcome.next _ = _
  rw [s.loadByte_of_readByte .wbuf _ b hb, s.aDrWrite_free b hfree]
  rfl

/-- Settles O18. -/
theorem stopIsEager : Obligations.StopIsEager := fun _ =>
  ⟨fun hgo => next_setSeq (State.aStop_sent hgo) _, fun hwait => next_setSeq (State.aStop_waits hwait) _⟩

/-- Settles O19: clearing the policy first does not change whether the stop can go. -/
theorem endIsStagedOneByteEarly : Obligations.EndIsStagedOneByteEarly := by
  refine fun s => ⟨fun hpass => exec_rStage_passing hpass, fun hstage hwait => ?_, fun hstage hgo => ?_⟩
  · rw [exec_rStage_staging hstage, State.stageEnd, State.aStop_waits (s := s.aAck false) hwait]
    rfl
  · rw [exec_rStage_staging hstage, State.stageEnd, State.aStop_sent (s := s.aAck false) hgo]
    rfl

/-- Settles O20. -/
theorem readByteCopiedOut : Obligations.ReadByteCopiedOut := by
  intro s hfull
  obtain ⟨hvalue, hread⟩ := s.aDrRead_full hfull
  refine ⟨_, rfl, ?_, ?_, fun j hj => ?_⟩
  · rw [hvalue, hread]
    rfl
  · rw [hvalue]
    exact Memory.read_write_same_of_unlisted .rbuf _ _ _ rfl
  · rw [hread]
    exact Memory.read_write_other .rbuf s.rbuf _ j _ hj.symm

/-- Settles O22. -/
theorem doneRetires : Obligations.DoneRetires := fun _ => rfl

/-- Settles O23: a micro-operation either has no enabled step, or writes the table's successor, which is never its own code. -/
theorem successorTable : Obligations.SuccessorTable := by
  refine ⟨fun s t i hd h => ⟨fun hr => ?_, fun hr => ?_⟩, fun s t addr m n hidle h => ?_⟩
  · rw [exec_of_not_seqReady hd hr] at h
    cases h
    rfl
  · obtain ⟨hk, hcode⟩ := decodeSeq_micro hd
    have written := exec_writes_successor hk ((seqReady_eq_microReady hd s.biu).symm.trans hr) h
    exact ⟨written, seqSuccessor_ne hcode written⟩
  · rw [exec_bteTransact_idle hidle] at h
    cases h
    exact ⟨rfl, firstMicro_ne_idle m n⟩

end Sys2Proof.Machine
end

section
/-! # What a turn does to the engine and the BIU (10_state.md R30, R38)

The two invariants of the engine speak of its registers and of the BIU alone. Reset apart, a turn either leaves both as they are, or is
the sequencer's, the BIU's, or a giver's whose BTE command is taken in `IDLE`; each invariant is then one case per kind of turn. -/

namespace Sys2Proof.Machine

/-! ### The four kinds of turn -/

/-- Neither the engine's registers nor the BIU moved. -/
structure EngineKept (s t : State) : Prop where
  bte : t.bte = s.bte
  biu : t.biu = s.biu

theorem EngineKept.refl (s : State) : EngineKept s s := ⟨rfl, rfl⟩

theorem UnitsOnly.engineKept {s t : State} (h : UnitsOnly s t) : EngineKept s t := ⟨h.bte, h.biu⟩

/-- What a turn but reset's does to the engine and the BIU. -/
inductive EngineTurn (s t : State) : Prop where
  | kept (h : EngineKept s t)
  | micro (i : Instr) (hd : decodeSeq s.bte.seq = .ok i) (h : exec i s = .next t)
  | move (h : t = s.biuTurn)
  | command (i : Instr) (u : State) (hk : i.kind = .bteCommand) (hidle : s.bte.seq = Seq.idle) (hu : EngineKept s u)
      (h : exec i u = .next t)

section
variable {s t : State}

theorem State.injectWord_engineKept (s : State) (w : Word) : EngineKept s (s.injectWord w) := by
  unfold State.injectWord
  split_ifs <;> constructor <;> simp

theorem State.eventOf_kind (s : State) (first : DispEvent) (src : Source) : (s.eventOf first src).kind = .event := by
  cases src with
  | disp => unfold State.eventOf; dsimp only; split <;> rfl
  | tick | edge => rfl

theorem State.afterService_engineKept (s : State) (src : Source) : EngineKept s (s.afterService src) := by
  cases src <;> exact ⟨rfl, rfl⟩

theorem State.returnFrom_engineKept (s : State) (g : Giver) : EngineKept s (s.returnFrom g) := by
  cases g <;> exact ⟨rfl, rfl⟩

theorem seqTurn_engineTurn (h : seqTurn exec s = .next t) : EngineTurn s t := by
  unfold seqTurn at h
  split at h
  · exact .micro _ ‹_› h
  · cases h

/-- A handler belongs to the units. -/
theorem dispatchTurn_engineKept {tie : Source} {first : DispEvent} (h : dispatchTurn exec tie first s = .next t) :
    EngineKept s t := by
  unfold dispatchTurn at h
  split at h
  · cases h; exact .refl s
  · next src _ =>
    obtain ⟨u, hrun, rfl⟩ := (thenState_next _ _ _).1 h
    have handled : EngineKept (s.enterHandler src) u := (exec_unitsOnly (.inr (s.eventOf_kind first src)) hrun).engineKept
    have returned := u.afterService_engineKept src
    exact ⟨returned.bte.trans handled.bte, returned.biu.trans handled.biu⟩

theorem giveWord_engineTurn {g : Giver} {w : Word} (h : giveWord exec g w s = .next t) : EngineTurn s t := by
  unfold giveWord at h
  split at h
  · next i hd =>
    split at h
    · next ha =>
      obtain hk | hk := decodeCommand_kind w i hd
      · exact .command i (s.popOp g) hk ((s.accepts_iff i).1 ha hk) ⟨rfl, rfl⟩ h
      · have given : EngineKept (s.popOp g) t := (exec_unitsOnly (.inl hk) h).engineKept
        exact .kept ⟨given.bte, given.biu⟩
    · cases h; exact .kept (.refl s)
  · cases h; exact .kept ⟨rfl, rfl⟩

theorem hostOp_engineTurn {g : Giver} {op : HostOp} (h : hostOp exec g s op = .next t) : EngineTurn s t := by
  cases op with
  | command w => exact giveWord_engineTurn h
  | edgeTest | freshTest | enableLine => cases h; exact .kept ⟨rfl, rfl⟩
  | handlerReturn =>
    cases h
    have returned := (s.popOp g).returnFrom_engineKept g
    exact .kept ⟨returned.bte, returned.biu⟩

theorem hostTurn_engineTurn {g : Giver} (h : hostTurn exec g s = .next t) : EngineTurn s t := by
  unfold hostTurn at h
  split at h
  · cases h; exact .kept (.refl s)
  · split at h
    · cases h; exact .kept (.refl s)
    · exact hostOp_engineTurn h

theorem takeTurn_engineTurn {turn : Turn} (hr : turn ≠ .reset) (h : takeTurn exec turn s = .next t) : EngineTurn s t := by
  cases turn with
  | seq => exact seqTurn_engineTurn h
  | biu => cases h; exact .move rfl
  | dispatch tie first => exact .kept (dispatchTurn_engineKept h)
  | host g => exact hostTurn_engineTurn h
  | dispTimer | tickTimer => cases h; exact .kept ⟨by simp, by simp⟩
  | sensorEdge | submit | boot | enableLine => cases h; exact .kept ⟨rfl, rfl⟩
  | inject w => cases h; exact .kept (s.injectWord_engineKept w)
  | reset => exact absurd rfl hr

/-- A step is reset's, or one of the four kinds of turn, taken once the turn has left the list. -/
theorem step_cases (h : step s = .next t) :
    (s.turnNow = .reset ∧ t = s.dropTurn.resetTurn) ∨ (s.turnNow ≠ .reset ∧ EngineTurn s.dropTurn t) := by
  change takeTurn exec s.turnNow s.dropTurn = .next t at h
  by_cases hr : s.turnNow = .reset
  · rw [hr] at h
    cases h
    exact .inl ⟨hr, rfl⟩
  · exact .inr ⟨hr, takeTurn_engineTurn hr h⟩

end

/-- A BTE command taken in `IDLE` resets the engine, begins a transaction, or leaves engine and BIU as they are. -/
theorem exec_bteCommand_engine {s t : State} {i : Instr} (hk : i.kind = .bteCommand) (hidle : s.bte.seq = Seq.idle)
    (h : exec i s = .next t) :
    t = s.initEngine ∨ (∃ addr m n, t = s.beginTransaction addr m n) ∨ EngineKept s t := by
  cases i with
  | bteInit => rw [exec_bteInit_idle hidle] at h; cases h; exact .inl rfl
  | bteTransact addr m n => rw [exec_bteTransact_idle hidle] at h; cases h; exact .inr (.inl ⟨addr, m, n, rfl⟩)
  | bteWput idx byte => rw [exec_bteWput_idle hidle] at h; cases h; exact .inr (.inr ⟨rfl, rfl⟩)
  | bteRget idx => rw [exec_bteRget_idle hidle] at h; cases h; exact .inr (.inr ⟨rfl, rfl⟩)
  | _ => cases hk

/-! ### The operations that leave the acknowledge policy alone -/

@[simp] theorem State.mStop_acken (s : State) : s.mStop.biu.acken = s.biu.acken := rfl

@[simp] theorem State.eagerStop_acken (s : State) : s.eagerStop.biu.acken = s.biu.acken := by
  unfold State.eagerStop; split <;> rfl

@[simp] theorem State.aStop_acken (s : State) : s.aStop.biu.acken = s.biu.acken := by
  simp [State.aStop]

@[simp] theorem State.aDrWrite_acken (s : State) (v : Byte) : (s.aDrWrite v).biu.acken = s.biu.acken := by
  unfold State.aDrWrite; split <;> rfl

@[simp] theorem State.aDrRead_acken (s : State) : s.aDrRead.biu.acken = s.biu.acken := rfl

@[simp] theorem State.aClrAddr_acken (s : State) : s.aClrAddr.biu.acken = s.biu.acken := by
  unfold State.aClrAddr; split <;> rfl

/-- No move of the BIU writes `ACKEN`. -/
theorem State.takeMove_acken (s : State) (m : Move) : (s.takeMove m).biu.acken = s.biu.acken := by
  cases m with
  | start | txload => rfl
  | addr => simp only [State.takeMove, State.mAddr]; split <;> rfl
  | txbyte => simp only [State.takeMove, State.mTxbyte]; split <;> rfl
  | rxbyte =>
    simp only [State.takeMove, State.mRxbyte]
    split
    · rfl
    · exact State.eagerStop_acken _

theorem State.biuTurn_acken (s : State) : s.biuTurn.biu.acken = s.biu.acken := by
  unfold State.biuTurn
  split
  · exact s.takeMove_acken _
  · rfl

/-- Of the micro-operations only `R_ACKPOL` and `R_STAGE` write `ACKEN`. -/
theorem exec_micro_acken {s t : State} {i : Instr} (hk : i.kind = .micro) (hpol : i ≠ .rAckpol) (hstage : i ≠ .rStage)
    (h : exec i s = .next t) : t.biu.acken = s.biu.acken := by
  cases i with
  | rAckpol => exact absurd rfl hpol
  | rStage => exact absurd rfl hstage
  | idle | wStart | wWaitSb | wAddr | wWaitAddr | wClrAddr | wData | wWaitTxe | wWaitBtf | wStop | rStart | rWaitSb | rAddr
  | rWaitAddr | rClrAddr | rWaitRxne | rData | done => cases h; simp
  | _ => cases hk

/-! ### The operand registers -/

@[simp] theorem State.waitThen_bte (s : State) (flag : Bool) (c : BitVec 5) :
    (s.waitThen flag c).bte = if flag then { s.bte with seq := c } else s.bte := by
  cases flag <;> rfl

/-- Only a `BTE_TRANSACT` writes `RLEN`. -/
theorem exec_micro_rlen {s t : State} {i : Instr} (hk : i.kind = .micro) (h : exec i s = .next t) :
    t.bte.rlen = s.bte.rlen := by
  cases i with
  | wWaitSb | wWaitAddr | wWaitTxe | wWaitBtf | rWaitSb | rWaitAddr | rWaitRxne => cases h; simp only [State.waitThen_bte]; split <;> rfl
  | rStage => cases h; simp only [State.setSeq_bte]; split <;> simp
  | idle | wStart | wAddr | wClrAddr | wData | wStop | rStart | rAddr | rAckpol | rClrAddr | rData | done => cases h; simp
  | _ => cases hk

end Sys2Proof.Machine
end

section
/-! # The read phase is entered only when bytes are to be read (40_bus_transaction_engine.md R173) -/

namespace Sys2Proof.Machine

theorem State.readsAskedFor_iff (s : State) :
    s.readsAskedFor = true ↔ (inReadPhase s.bte.seq = true → s.bte.rlen ≠ 0#8) := by
  cases h : inReadPhase s.bte.seq <;> simp [State.readsAskedFor, h]

theorem EngineKept.readsAskedFor {s t : State} (h : EngineKept s t) (hs : s.readsAskedFor = true) :
    t.readsAskedFor = true := by
  rw [State.readsAskedFor_iff, h.bte]
  exact s.readsAskedFor_iff.1 hs

/-- From outside the read phase the table leads into it only with bytes to read. -/
theorem rlen_ne_zero_of_enters {e : Bte} {i : Instr} {c d : BitVec 5} (hi : encode i = .seq c) (hc : inReadPhase c = false)
    (h : seqSuccessor e i = some d) (hd : inReadPhase d = true) : e.rlen ≠ 0#8 := by
  cases i <;> cases hi <;> cases h
  case wWaitBtf =>
    intro hzero
    simp [hzero, inReadPhase] at hd
  case wData => split at hd <;> exact absurd hd (by decide)
  case rStart | rWaitSb | rAddr | rAckpol | rWaitAddr | rClrAddr | rStage | rWaitRxne | rData => exact absurd hc (by decide)
  all_goals exact absurd hd (by decide)

theorem exec_micro_readsAskedFor {s t : State} {i : Instr} (hd : decodeSeq s.bte.seq = .ok i) (hs : s.readsAskedFor = true)
    (h : exec i s = .next t) : t.readsAskedFor = true := by
  obtain ⟨hk, hcode⟩ := decodeSeq_micro hd
  cases hr : microReady s.biu i
  · rw [exec_of_not_microReady hr] at h
    cases h
    exact hs
  · rw [State.readsAskedFor_iff]
    intro hread
    cases hc : inReadPhase s.bte.seq
    · exact rlen_ne_zero_of_enters hcode hc (exec_writes_successor hk hr h) hread
    · rw [exec_micro_rlen hk h]
      exact s.readsAskedFor_iff.1 hs hc

theorem firstMicro_enters {m n : BitVec 8} (h : inReadPhase (firstMicro m n) = true) : n ≠ 0#8 := by
  rw [firstMicro_eq] at h
  split_ifs at h with hm hn
  · exact absurd h (by decide)
  · exact hn
  · exact absurd h (by decide)

theorem exec_bteCommand_readsAskedFor {s t : State} {i : Instr} (hk : i.kind = .bteCommand) (hidle : s.bte.seq = Seq.idle)
    (hs : s.readsAskedFor = true) (h : exec i s = .next t) : t.readsAskedFor = true := by
  obtain rfl | ⟨addr, m, n, rfl⟩ | hkept := exec_bteCommand_engine hk hidle h
  · rfl
  · exact (State.readsAskedFor_iff _).2 firstMicro_enters
  · exact hkept.readsAskedFor hs

theorem EngineTurn.readsAskedFor {s t : State} (h : EngineTurn s t) (hs : s.readsAskedFor = true) :
    t.readsAskedFor = true := by
  cases h with
  | kept h => exact h.readsAskedFor hs
  | micro i hd h => exact exec_micro_readsAskedFor hd hs h
  | move h =>
    rw [h, State.readsAskedFor_iff, State.biuTurn_bte]
    exact s.readsAskedFor_iff.1 hs
  | command i u hk hidle hu h =>
    exact exec_bteCommand_readsAskedFor hk (hu.bte ▸ hidle) (hu.readsAskedFor hs) h

/-- The two micro-operations that write `ACKEN` are of the read phase. -/
theorem not_acken_writer {i : Instr} {c : BitVec 5} (hi : encode i = .seq c) (hc : ¬ inReadPhase c = true) :
    i ≠ .rAckpol ∧ i ≠ .rStage := by
  constructor <;> (rintro rfl; cases hi; exact hc rfl)

/-- A turn in a running transaction that reads nothing writes no acknowledge policy. -/
theorem EngineTurn.acken {s t : State} (h : EngineTurn s t) (hbusy : s.bte.seq ≠ Seq.idle)
    (hread : ¬ inReadPhase s.bte.seq = true) : t.biu.acken = s.biu.acken := by
  cases h with
  | kept h => rw [h.biu]
  | micro i hd h =>
    obtain ⟨hk, hcode⟩ := decodeSeq_micro hd
    obtain ⟨hpol, hstage⟩ := not_acken_writer hcode hread
    exact exec_micro_acken hk hpol hstage h
  | move h => rw [h, s.biuTurn_acken]
  | command i u hk hidle hu h => exact absurd hidle hbusy

/-- Settles O31: reset and an accepted command set `SEQ` by the count of bytes to read, the table leads into the read phase only past
a test of `RLEN`, and outside the read phase nothing writes `ACKEN`. -/
theorem writeOnlyNeverReads : Obligations.WriteOnlyNeverReads := by
  intro s t hs h
  obtain ⟨hreset, rfl⟩ | ⟨-, hturn⟩ := step_cases h
  · exact ⟨rfl, fun _ _ hno => absurd hreset hno⟩
  · refine ⟨hturn.readsAskedFor hs, fun hbusy hzero _ => hturn.acken hbusy fun hread => ?_⟩
    exact s.readsAskedFor_iff.1 hs hread hzero

end Sys2Proof.Machine
end

section
/-! # Engine and BIU stay in step (40_bus_transaction_engine.md R170 to R175, 41_bus_interface_unit.md R198)

A transaction takes the BIU through a fixed series of situations (`Biu.quiet`, `Biu.startAsked`, …). First, which move is enabled in
each of them; then where each action of the engine and each move of the BIU leads from one to another; then the invariant, one lemma
per kind of turn. -/

namespace Sys2Proof.Machine

/-! ### The move enabled in each situation -/

section
variable {b : Biu}

theorem Biu.nextMove_of_quiet (h : b.quiet = true) : b.nextMove = none := by
  simp_all [Biu.quiet, Biu.nextMove, Biu.startEnabled, Biu.addrEnabled, Biu.txloadEnabled, Biu.txbyteEnabled, Biu.rxbyteEnabled]

theorem Biu.nextMove_of_refused (h : b.refused = true) : b.nextMove = none := by
  simp_all [Biu.refused, Biu.nextMove, Biu.startEnabled, Biu.addrEnabled, Biu.txloadEnabled, Biu.txbyteEnabled, Biu.rxbyteEnabled]

theorem Biu.nextMove_of_startAsked (h : b.startAsked = true) : b.nextMove = some .start := by
  simp_all [Biu.startAsked, Biu.nextMove, Biu.startEnabled]

theorem Biu.nextMove_of_allSent (h : b.allSent true = true) : b.nextMove = some .start := by
  simp_all [Biu.allSent, Biu.transmits, Biu.nextMove, Biu.startEnabled, Biu.drained]

theorem Biu.nextMove_of_addressHeld {v : Byte} (h : b.addressHeld v = true) : b.nextMove = some .addr := by
  simp_all [Biu.addressHeld, Biu.nextMove, Biu.startEnabled, Biu.addrEnabled]

theorem Biu.nextMove_of_byteWaits (h : b.byteWaits = true) : b.nextMove = some (if b.shf then .txbyte else .txload) := by
  cases hshf : b.shf <;>
    simp_all [Biu.byteWaits, Biu.transmits, Biu.nextMove, Biu.startEnabled, Biu.addrEnabled, Biu.txloadEnabled, Biu.txbyteEnabled]

theorem Biu.nextMove_of_byteShifts (h : b.byteShifts = true) : b.nextMove = some .txbyte := by
  simp_all [Biu.byteShifts, Biu.transmits, Biu.nextMove, Biu.startEnabled, Biu.addrEnabled, Biu.txloadEnabled, Biu.txbyteEnabled]

theorem Biu.nextMove_of_receiving {i n : Nat} (h : b.receiving i n = true) : b.nextMove = some .rxbyte := by
  simp_all [Biu.receiving, Biu.nextMove, Biu.startEnabled, Biu.addrEnabled, Biu.txloadEnabled, Biu.txbyteEnabled, Biu.rxbyteEnabled]

end

/-! ### The flag each situation has raised, and the flag it has not raised yet -/

section
variable {b : Biu}

theorem Biu.startSeen_sb (h : b.startSeen = true) : b.sb = true := by simp_all [Biu.startSeen]

theorem Biu.addressSeen_addr {m : Mode} (h : b.addressSeen m = true) : b.addr = true := by simp_all [Biu.addressSeen]

theorem Biu.byteShifts_txe (h : b.byteShifts = true) : b.txe = true := by simp_all [Biu.byteShifts]

theorem Biu.allSent_btf {r : Bool} (h : b.allSent r = true) : b.btf = true := by simp_all [Biu.allSent]

theorem Biu.received_rxne {i n : Nat} (h : b.received i n = true) : b.rxne = true := by simp_all [Biu.received]

theorem Biu.startAsked_sb (h : b.startAsked = true) : b.sb = false := by simp_all [Biu.startAsked, Biu.noFlags]

theorem Biu.allSent_sb {r : Bool} (h : b.allSent r = true) : b.sb = false := by simp_all [Biu.allSent, Biu.transmits]

theorem Biu.addressHeld_addr {v : Byte} (h : b.addressHeld v = true) : b.addr = false := by
  simp_all [Biu.addressHeld, Biu.noFlags]

theorem Biu.byteWaits_flags (h : b.byteWaits = true) : b.txe = false ∧ b.btf = false := by simp_all [Biu.byteWaits]

theorem Biu.byteShifts_btf (h : b.byteShifts = true) : b.btf = false := by simp_all [Biu.byteShifts]

theorem Biu.receiving_rxne {i n : Nat} (h : b.receiving i n = true) : b.rxne = false := by
  simp_all [Biu.receiving, Biu.noFlags]

theorem Biu.refused_flags (h : b.refused = true) : b.addr = false ∧ b.btf = false := by simp_all [Biu.refused]

end

/-! ### Where the engine's actions lead -/

section
variable {s : State}

theorem State.aStart_startAsked (h : s.biu.quiet = true) : s.aStart.biu.startAsked = true := by
  simp_all [Biu.quiet, Biu.startAsked, Biu.noFlags]

theorem State.aStart_allSent (h : s.biu.allSent false = true) : s.aStart.biu.allSent true = true := by
  simp_all [Biu.allSent, Biu.transmits]

theorem State.aDrWrite_addressHeld (h : s.biu.startSeen = true) (v : Byte) : (s.aDrWrite v).biu.addressHeld v = true := by
  have free : s.biu.drf = false := by simp_all [Biu.startSeen]
  rw [s.aDrWrite_free v free]
  simp_all [Biu.startSeen, Biu.addressHeld, Biu.flagsDrWrite, Biu.noFlags]

theorem State.aDrWrite_byteWaits (h : s.biu.byteShifts = true ∨ s.biu.dataOpen = true) (v : Byte) :
    (s.aDrWrite v).biu.byteWaits = true := by
  have free : s.biu.drf = false := by obtain h | h := h <;> simp_all [Biu.byteShifts, Biu.dataOpen]
  rw [s.aDrWrite_free v free]
  obtain h | h := h <;> simp_all [Biu.byteShifts, Biu.dataOpen, Biu.byteWaits, Biu.transmits, Biu.flagsDrWrite]

theorem State.aAck_addressHeld {v : Byte} (h : s.biu.addressHeld v = true) (a : Bool) : (s.aAck a).biu.addressHeld v = true := h

theorem State.aClrAddr_dataOpen (h : s.biu.addressSeen .addrTx = true) : s.aClrAddr.biu.dataOpen = true := by
  have mode : s.biu.mode = .addrTx := by simp_all [Biu.addressSeen]
  rw [s.aClrAddr_eq]
  simp_all [Biu.addressSeen, Biu.dataOpen, Biu.transmits]

/-- An index below a count of bytes does not wrap when it is counted. -/
theorem toNat_add_one {i n : BitVec 8} (h : i.toNat < n.toNat) : (i + 1#8).toNat = i.toNat + 1 := by
  bv_omega

theorem preArmedAck_of_pos {n : BitVec 8} (hn : 0 < n.toNat) : preArmedAck n = decide (1 < n.toNat) := by
  simp only [preArmedAck, ne_eq, ← BitVec.toNat_inj, decide_eq_decide]
  change ¬ n.toNat = 1 ↔ _
  omega

/-- The decision for byte 0 is the policy armed before the address. -/
theorem State.aClrAddr_receiving {n : BitVec 8} (h : s.biu.addressSeen .addrRx = true) (hn : 0 < n.toNat)
    (ha : s.biu.acken = preArmedAck n) :
    s.aClrAddr.biu.receiving 0 n.toNat = true ∧ s.aClrAddr.biu.stopreq = false ∧ s.aClrAddr.biu.acken = decide (1 < n.toNat) := by
  have mode : s.biu.mode = .addrRx := by simp_all [Biu.addressSeen]
  rw [preArmedAck_of_pos hn] at ha
  rw [s.aClrAddr_eq]
  simp_all [Biu.addressSeen, Biu.receiving, Biu.noFlags]

theorem State.aStop_quiet (h : s.biu.allSent false = true) : s.aStop.biu.quiet = true := by
  have go : s.biu.stopCanGo := by simp_all [Biu.allSent, Biu.transmits, Biu.stopCanGo]
  rw [State.aStop_sent go]
  simp_all [Biu.allSent, Biu.transmits, Biu.quiet, Biu.noFlags]

/-- While a byte is being received a stop is requested and waits. -/
theorem State.stageEnd_biu {i n : Nat} (h : s.biu.receiving i n = true) :
    s.stageEnd.biu = { s.biu with acken := false, stopreq := true } := by
  have wait : ¬ (s.aAck false).biu.stopCanGo := by simp_all [Biu.receiving, Biu.stopCanGo]
  rw [State.stageEnd, State.aStop_waits wait]
  rfl

theorem State.aDrRead_receiving {i n : Nat} (h : s.biu.received i n = true) (hi : i + 1 < n) :
    s.aDrRead.biu.receiving (i + 1) n = true ∧ s.aDrRead.biu.acken = decide (i + 2 < n) ∧
      s.aDrRead.biu.stopreq = decide (n ≤ i + 2) := by
  rw [(s.aDrRead_full (Biu.received_rxne h)).2]
  simp_all [Biu.received, Biu.receiving, Biu.flagsDrRead, Biu.noFlags]

theorem State.aDrRead_quiet {i n : Nat} (h : s.biu.received i n = true) (hi : ¬ i + 1 < n) : s.aDrRead.biu.quiet = true := by
  rw [(s.aDrRead_full (Biu.received_rxne h)).2]
  simp_all [Biu.received, Biu.quiet, Biu.flagsDrRead, Biu.noFlags]

/-! ### Where the BIU's moves lead -/

/-- An address byte carries its direction in bit 0 (30_encoding.md R115). -/
theorem addressByte_bit0 (devaddr : BitVec 7) (dir : BitVec 1) : (addressByte devaddr dir).getLsbD 0 = dir.getLsbD 0 :=
  BitVec.getLsbD_append

theorem isWriteAddress_write (devaddr : BitVec 7) : isWriteAddress (addressByte devaddr rwWrite) = true := by
  rw [isWriteAddress, addressByte_bit0]
  rfl

theorem isWriteAddress_read (devaddr : BitVec 7) : ¬ isWriteAddress (addressByte devaddr rwRead) = true := by
  rw [isWriteAddress, addressByte_bit0]
  decide

theorem State.mStart_startSeen (h : s.biu.startAsked = true ∨ s.biu.allSent true = true) : s.mStart.biu.startSeen = true := by
  obtain h | h := h <;> simp_all [Biu.startAsked, Biu.allSent, Biu.transmits, Biu.startSeen, Biu.flagsStart, Biu.noFlags]

theorem State.mAddr_addressSeen {v : Byte} (h : s.biu.addressHeld v = true) :
    s.mAddr.biu.addressSeen (if isWriteAddress v then .addrTx else .addrRx) = true ∨ s.mAddr.biu.refused = true := by
  unfold State.mAddr
  split
  · left
    simp_all [Biu.addressHeld, Biu.addressSeen, Biu.flagsAddressAcked, Biu.noFlags]
  · right
    simp_all [Biu.addressHeld, Biu.refused, Biu.noFlags]

theorem State.mTxload_byteShifts (h : s.biu.byteWaits = true) : s.mTxload.biu.byteShifts = true := by
  simp_all [Biu.byteWaits, Biu.byteShifts, Biu.transmits, Biu.flagsTxload]

theorem State.mTxbyte_byteWaits (h : s.biu.byteWaits = true) :
    s.mTxbyte.biu.byteWaits = true ∨ (s.mTxbyte.biu.refused = true ∧ s.mTxbyte.biu.txe = false) := by
  unfold State.mTxbyte
  split
  · left
    simp_all [Biu.byteWaits, Biu.transmits, Biu.flagsByteAcked]
  · right
    simp_all [Biu.byteWaits, Biu.transmits, Biu.refused]

theorem State.mTxbyte_allSent (h : s.biu.byteShifts = true) :
    s.mTxbyte.biu.allSent false = true ∨ s.mTxbyte.biu.refused = true := by
  unfold State.mTxbyte
  split
  · left
    simp_all [Biu.byteShifts, Biu.allSent, Biu.transmits, Biu.flagsByteAcked]
  · right
    simp_all [Biu.byteShifts, Biu.transmits, Biu.refused]

theorem State.mRxbyte_received {i n : Nat} (h : s.biu.receiving i n = true) (hi : i < n)
    (ha : s.biu.acken = decide (i + 2 < n)) (hs : s.biu.stopreq = decide (n ≤ i + 2)) :
    s.mRxbyte.biu.received i n = true := by
  by_cases hmore : i + 1 < n
  · simp_all [Biu.receiving, Biu.received, Biu.noFlags, State.mRxbyte, Biu.flagsReceived]
  · have last : n ≤ i + 2 ∧ ¬ i + 2 < n := by omega
    simp_all [Biu.receiving, Biu.received, Biu.noFlags, State.mRxbyte, Biu.flagsReceived, State.eagerStop, Biu.stopEnabled,
      State.mStop, Biu.flagsStop]

end

/-! ### The invariant at a value of `SEQ` -/

theorem State.protocolOk_iff (s : State) :
    s.protocolOk = true ↔ ∃ i, decodeSeq s.bte.seq = .ok i ∧ protocolAt s.bte s.biu i = true := by
  unfold State.protocolOk
  cases h : decodeSeq s.bte.seq <;> simp

theorem State.protocolOk_of_at {s : State} {i : Instr} (hd : decodeSeq s.bte.seq = .ok i)
    (h : protocolAt s.bte s.biu i = true) : s.protocolOk = true :=
  s.protocolOk_iff.2 ⟨i, hd, h⟩

/-- The invariant at a code says nothing of the code itself, so it can be proved before `SEQ` is written. -/
theorem State.setSeq_protocolOk {s : State} (c : BitVec 5) {i : Instr} (hd : decodeSeq c = .ok i)
    (h : protocolAt s.bte s.biu i = true) : (s.setSeq c).protocolOk = true := by
  refine State.protocolOk_of_at (s := s.setSeq c) hd ?_
  cases i <;> exact h

theorem EngineKept.protocolOk {s t : State} (h : EngineKept s t) (hs : s.protocolOk = true) : t.protocolOk = true := by
  rw [State.protocolOk_iff, h.bte, h.biu]
  exact s.protocolOk_iff.1 hs

theorem protocolOk_of_quiet_idle {s : State} (hidle : s.bte.seq = Seq.idle) (h : s.biu.quiet = true) : s.protocolOk = true :=
  State.protocolOk_of_at (i := .idle) (by rw [hidle]; rfl) h

/-! ### Commands and reset -/

theorem State.beginTransaction_protocolOk {s : State} (h : s.biu.quiet = true) (addr : BitVec 7) (m n : BitVec 8) :
    (s.beginTransaction addr m n).protocolOk = true := by
  let e : Bte := { s.bte with devaddr := addr, wlen := m, rlen := n, widx := 0#8, ridx := 0#8 }
  suffices ({ s with bte := e }.setSeq (firstMicro m n)).protocolOk = true from this
  unfold firstMicro
  split_ifs with hm hn
  · exact State.setSeq_protocolOk (i := .wStart) Seq.wStart rfl (by simp [protocolAt, h, e, hm])
  · have zero : m = 0#8 := BitVec.eq_of_toNat_eq (by simpa using hm)
    exact State.setSeq_protocolOk (i := .rStart) Seq.rStart rfl (by simp [protocolAt, h, e, zero, hn])
  · exact State.setSeq_protocolOk (i := .done) Seq.done rfl h

theorem exec_bteCommand_protocolOk {s t : State} {i : Instr} (hk : i.kind = .bteCommand) (hidle : s.bte.seq = Seq.idle)
    (hs : s.protocolOk = true) (h : exec i s = .next t) : t.protocolOk = true := by
  have quiet : s.biu.quiet = true := by
    obtain ⟨j, hd, hp⟩ := s.protocolOk_iff.1 hs
    rw [hidle] at hd
    cases hd
    exact hp
  obtain rfl | ⟨addr, m, n, rfl⟩ | hkept := exec_bteCommand_engine hk hidle h
  · exact protocolOk_of_quiet_idle rfl rfl
  · exact State.beginTransaction_protocolOk quiet addr m n
  · exact hkept.protocolOk hs

/-! ### Moves of the BIU, at each wait of the sequencer -/

theorem not_raised_and_clear {flag : Bool} (raised : flag = true) (clear : flag = false) : False := by
  simp [raised] at clear

section
variable {s : State} {m : Move}

theorem takeMove_wWaitSb (hp : protocolAt s.bte s.biu .wWaitSb = true) (hsb : s.biu.sb = false)
    (hm : s.biu.nextMove = some m) : protocolAt s.bte (s.takeMove m).biu .wWaitSb = true := by
  simp only [protocolAt, Bool.and_eq_true, Bool.or_eq_true] at hp ⊢
  obtain ⟨⟨⟨asked | seen, hlen⟩, hw⟩, hr⟩ := hp
  · rw [Biu.nextMove_of_startAsked asked] at hm
    cases hm
    exact ⟨⟨⟨.inr (State.mStart_startSeen (.inl asked)), hlen⟩, hw⟩, hr⟩
  · exact (not_raised_and_clear (Biu.startSeen_sb seen) hsb).elim

theorem takeMove_rWaitSb (hp : protocolAt s.bte s.biu .rWaitSb = true) (hsb : s.biu.sb = false)
    (hm : s.biu.nextMove = some m) : protocolAt s.bte (s.takeMove m).biu .rWaitSb = true := by
  simp only [protocolAt, Bool.and_eq_true, Bool.or_eq_true] at hp ⊢
  obtain ⟨⟨⟨asked | seen, hw⟩, hlen⟩, hr⟩ := hp
  · obtain ⟨next, before⟩ : s.biu.nextMove = some .start ∧ (s.biu.startAsked = true ∨ s.biu.allSent true = true) := by
      split at asked
      · exact ⟨Biu.nextMove_of_startAsked asked, .inl asked⟩
      · exact ⟨Biu.nextMove_of_allSent asked, .inr asked⟩
    rw [next] at hm
    cases hm
    exact ⟨⟨⟨.inr (State.mStart_startSeen before), hw⟩, hlen⟩, hr⟩
  · exact (not_raised_and_clear (Biu.startSeen_sb seen) hsb).elim

theorem takeMove_wWaitAddr (hp : protocolAt s.bte s.biu .wWaitAddr = true) (haddr : s.biu.addr = false)
    (hm : s.biu.nextMove = some m) : protocolAt s.bte (s.takeMove m).biu .wWaitAddr = true := by
  simp only [protocolAt, Bool.and_eq_true, Bool.or_eq_true] at hp ⊢
  obtain ⟨⟨⟨(held | seen) | refused, hlen⟩, hw⟩, hr⟩ := hp
  · rw [Biu.nextMove_of_addressHeld held] at hm
    cases hm
    have answered := State.mAddr_addressSeen held
    rw [if_pos (isWriteAddress_write _)] at answered
    exact ⟨⟨⟨answered.imp .inr id, hlen⟩, hw⟩, hr⟩
  · exact (not_raised_and_clear (Biu.addressSeen_addr seen) haddr).elim
  · rw [Biu.nextMove_of_refused refused] at hm; cases hm

theorem takeMove_rWaitAddr (hp : protocolAt s.bte s.biu .rWaitAddr = true) (haddr : s.biu.addr = false)
    (hm : s.biu.nextMove = some m) : protocolAt s.bte (s.takeMove m).biu .rWaitAddr = true := by
  simp only [protocolAt, Bool.and_eq_true, Bool.or_eq_true] at hp ⊢
  obtain ⟨⟨⟨(held | seen) | refused, hlen⟩, hr⟩, hack⟩ := hp
  · rw [Biu.nextMove_of_addressHeld held] at hm
    cases hm
    have answered := State.mAddr_addressSeen held
    rw [if_neg (isWriteAddress_read _)] at answered
    refine ⟨⟨⟨answered.imp .inr id, hlen⟩, hr⟩, ?_⟩
    rwa [s.takeMove_acken]
  · exact (not_raised_and_clear (Biu.addressSeen_addr seen) haddr).elim
  · rw [Biu.nextMove_of_refused refused] at hm; cases hm

/-- A byte that waits goes to `SH` if that is free; if not, the byte before it goes to the bus. -/
theorem takeMove_byteWaits (waiting : s.biu.byteWaits = true) (hm : s.biu.nextMove = some m) :
    (s.takeMove m).biu.byteShifts = true ∨ (s.takeMove m).biu.byteWaits = true ∨
      ((s.takeMove m).biu.refused = true ∧ (s.takeMove m).biu.txe = false) := by
  rw [Biu.nextMove_of_byteWaits waiting] at hm
  cases hshf : s.biu.shf <;> rw [hshf] at hm <;> cases hm
  · exact .inl (State.mTxload_byteShifts waiting)
  · exact .inr (State.mTxbyte_byteWaits waiting)

theorem takeMove_wWaitTxe (hp : protocolAt s.bte s.biu .wWaitTxe = true) (htxe : s.biu.txe = false)
    (hm : s.biu.nextMove = some m) : protocolAt s.bte (s.takeMove m).biu .wWaitTxe = true := by
  simp only [protocolAt, Bool.and_eq_true, Bool.or_eq_true, Bool.not_eq_true'] at hp ⊢
  obtain ⟨⟨(waiting | shifts) | ⟨refused, -⟩, hlen⟩, hr⟩ := hp
  · obtain shifts | waiting | refused := takeMove_byteWaits waiting hm
    · exact ⟨⟨.inl (.inr shifts), hlen⟩, hr⟩
    · exact ⟨⟨.inl (.inl waiting), hlen⟩, hr⟩
    · exact ⟨⟨.inr refused, hlen⟩, hr⟩
  · exact (not_raised_and_clear (Biu.byteShifts_txe shifts) htxe).elim
  · rw [Biu.nextMove_of_refused refused] at hm; cases hm

theorem takeMove_wWaitBtf (hp : protocolAt s.bte s.biu .wWaitBtf = true) (hbtf : s.biu.btf = false)
    (hm : s.biu.nextMove = some m) : protocolAt s.bte (s.takeMove m).biu .wWaitBtf = true := by
  simp only [protocolAt, Bool.and_eq_true, Bool.or_eq_true] at hp ⊢
  obtain ⟨⟨⟨((waiting | shifts) | sent) | refused, hlen⟩, hw⟩, hr⟩ := hp
  · obtain shifts | waiting | ⟨refused, -⟩ := takeMove_byteWaits waiting hm
    · exact ⟨⟨⟨.inl (.inl (.inr shifts)), hlen⟩, hw⟩, hr⟩
    · exact ⟨⟨⟨.inl (.inl (.inl waiting)), hlen⟩, hw⟩, hr⟩
    · exact ⟨⟨⟨.inr refused, hlen⟩, hw⟩, hr⟩
  · rw [Biu.nextMove_of_byteShifts shifts] at hm
    cases hm
    exact ⟨⟨⟨(State.mTxbyte_allSent shifts).imp .inr id, hlen⟩, hw⟩, hr⟩
  · exact (not_raised_and_clear (Biu.allSent_btf sent) hbtf).elim
  · rw [Biu.nextMove_of_refused refused] at hm; cases hm

theorem takeMove_rWaitRxne (hp : protocolAt s.bte s.biu .rWaitRxne = true) (hrxne : s.biu.rxne = false)
    (hm : s.biu.nextMove = some m) : protocolAt s.bte (s.takeMove m).biu .rWaitRxne = true := by
  simp only [protocolAt, Bool.and_eq_true, Bool.or_eq_true, decide_eq_true_eq] at hp ⊢
  obtain ⟨received | ⟨⟨receiving, hack⟩, hstop⟩, hlen⟩ := hp
  · exact (not_raised_and_clear (Biu.received_rxne received) hrxne).elim
  · rw [Biu.nextMove_of_receiving receiving] at hm
    cases hm
    exact ⟨.inl (State.mRxbyte_received receiving hlen hack hstop), hlen⟩

/-- A move the BIU makes while the sequencer has no enabled step keeps the invariant at the micro-operation in `SEQ`. -/
theorem takeMove_protocolAt {i : Instr} (hp : protocolAt s.bte s.biu i = true) (hr : microReady s.biu i = false)
    (hm : s.biu.nextMove = some m) : protocolAt s.bte (s.takeMove m).biu i = true := by
  cases i with
  | idle => rw [Biu.nextMove_of_quiet hp] at hm; cases hm
  | wWaitSb => exact takeMove_wWaitSb hp hr hm
  | rWaitSb => exact takeMove_rWaitSb hp hr hm
  | wWaitAddr => exact takeMove_wWaitAddr hp hr hm
  | rWaitAddr => exact takeMove_rWaitAddr hp hr hm
  | wWaitTxe => exact takeMove_wWaitTxe hp hr hm
  | wWaitBtf => exact takeMove_wWaitBtf hp hr hm
  | rWaitRxne => exact takeMove_rWaitRxne hp hr hm
  | _ => cases hr

/-- Under the engine-priority schedule the BIU moves only while the sequencer has no enabled step (R195). -/
theorem State.biuTurn_protocolOk (hsched : s.par.sched = .enginePriority) (hs : s.protocolOk = true) :
    s.biuTurn.protocolOk = true := by
  unfold State.biuTurn State.biuChoice State.biuMayMove
  rw [hsched]
  cases hr : seqReady s.bte.seq s.biu
  · split
    · next m hm =>
      obtain ⟨i, hd, hp⟩ := s.protocolOk_iff.1 hs
      refine State.protocolOk_of_at (i := i) ?_ ?_
      · rwa [State.takeMove_bte]
      · rw [State.takeMove_bte]
        exact takeMove_protocolAt hp ((seqReady_eq_microReady hd s.biu).symm.trans hr) hm
    · exact hs
  · exact hs

end

/-! ### Micro-operations: the waits -/

section
variable {s : State}

theorem wWaitSb_protocolOk (hp : protocolAt s.bte s.biu .wWaitSb = true) (hsb : s.biu.sb = true) :
    (s.setSeq Seq.wAddr).protocolOk = true := by
  refine State.setSeq_protocolOk (i := .wAddr) _ rfl ?_
  simp only [protocolAt, Bool.and_eq_true, Bool.or_eq_true] at hp ⊢
  obtain ⟨⟨⟨asked | seen, hlen⟩, hw⟩, hr⟩ := hp
  · exact (not_raised_and_clear hsb (Biu.startAsked_sb asked)).elim
  · exact ⟨⟨⟨seen, hlen⟩, hw⟩, hr⟩

theorem rWaitSb_protocolOk (hp : protocolAt s.bte s.biu .rWaitSb = true) (hsb : s.biu.sb = true) :
    (s.setSeq Seq.rAddr).protocolOk = true := by
  refine State.setSeq_protocolOk (i := .rAddr) _ rfl ?_
  simp only [protocolAt, Bool.and_eq_true, Bool.or_eq_true] at hp ⊢
  obtain ⟨⟨⟨asked | seen, hw⟩, hlen⟩, hr⟩ := hp
  · split at asked
    · exact (not_raised_and_clear hsb (Biu.startAsked_sb asked)).elim
    · exact (not_raised_and_clear hsb (Biu.allSent_sb asked)).elim
  · exact ⟨⟨seen, hlen⟩, hr⟩

theorem wWaitAddr_protocolOk (hp : protocolAt s.bte s.biu .wWaitAddr = true) (haddr : s.biu.addr = true) :
    (s.setSeq Seq.wClrAddr).protocolOk = true := by
  refine State.setSeq_protocolOk (i := .wClrAddr) _ rfl ?_
  simp only [protocolAt, Bool.and_eq_true, Bool.or_eq_true] at hp ⊢
  obtain ⟨⟨⟨(held | seen) | refused, hlen⟩, hw⟩, hr⟩ := hp
  · exact (not_raised_and_clear haddr (Biu.addressHeld_addr held)).elim
  · exact ⟨⟨⟨seen, hlen⟩, hw⟩, hr⟩
  · exact (not_raised_and_clear haddr (Biu.refused_flags refused).1).elim

theorem rWaitAddr_protocolOk (hp : protocolAt s.bte s.biu .rWaitAddr = true) (haddr : s.biu.addr = true) :
    (s.setSeq Seq.rClrAddr).protocolOk = true := by
  refine State.setSeq_protocolOk (i := .rClrAddr) _ rfl ?_
  simp only [protocolAt, Bool.and_eq_true, Bool.or_eq_true] at hp ⊢
  obtain ⟨⟨⟨(held | seen) | refused, hlen⟩, hr⟩, hack⟩ := hp
  · exact (not_raised_and_clear haddr (Biu.addressHeld_addr held)).elim
  · exact ⟨⟨⟨seen, hlen⟩, hr⟩, hack⟩
  · exact (not_raised_and_clear haddr (Biu.refused_flags refused).1).elim

theorem wWaitTxe_protocolOk (hp : protocolAt s.bte s.biu .wWaitTxe = true) (htxe : s.biu.txe = true) :
    (s.setSeq Seq.wData).protocolOk = true := by
  refine State.setSeq_protocolOk (i := .wData) _ rfl ?_
  simp only [protocolAt, Bool.and_eq_true, Bool.or_eq_true, Bool.not_eq_true'] at hp ⊢
  obtain ⟨⟨(waiting | shifts) | ⟨-, clear⟩, hlen⟩, hr⟩ := hp
  · exact (not_raised_and_clear htxe (Biu.byteWaits_flags waiting).1).elim
  · exact ⟨⟨.inl shifts, hlen⟩, hr⟩
  · exact (not_raised_and_clear htxe clear).elim

/-- `RLEN` chooses the stop or the repeated start (R158). -/
theorem wWaitBtf_protocolOk (hp : protocolAt s.bte s.biu .wWaitBtf = true) (hbtf : s.biu.btf = true) :
    (s.setSeq (afterWriteDrained s.bte.rlen)).protocolOk = true := by
  simp only [protocolAt, Bool.and_eq_true, Bool.or_eq_true, decide_eq_true_eq] at hp
  obtain ⟨⟨⟨((waiting | shifts) | sent) | refused, hlen⟩, hw⟩, hr⟩ := hp
  · exact (not_raised_and_clear hbtf (Biu.byteWaits_flags waiting).2).elim
  · exact (not_raised_and_clear hbtf (Biu.byteShifts_btf shifts)).elim
  · unfold afterWriteDrained
    split
    · next hzero => exact State.setSeq_protocolOk (i := .wStop) _ rfl (by simp [protocolAt, sent, hlen, hw, hr, hzero])
    · next hread =>
      have some_written : s.bte.wlen ≠ 0#8 := (toNat_pos_iff _).1 hlen
      have some_read : 0 < s.bte.rlen.toNat := (toNat_pos_iff _).2 hread
      exact State.setSeq_protocolOk (i := .rStart) _ rfl (by simp [protocolAt, some_written, sent, hw, hr, some_read])
  · exact (not_raised_and_clear hbtf (Biu.refused_flags refused).2).elim

theorem rWaitRxne_protocolOk (hp : protocolAt s.bte s.biu .rWaitRxne = true) (hrxne : s.biu.rxne = true) :
    (s.setSeq Seq.rData).protocolOk = true := by
  refine State.setSeq_protocolOk (i := .rData) _ rfl ?_
  simp only [protocolAt, Bool.and_eq_true, Bool.or_eq_true] at hp ⊢
  obtain ⟨received | ⟨⟨receiving, -⟩, -⟩, hlen⟩ := hp
  · exact ⟨received, hlen⟩
  · exact (not_raised_and_clear hrxne (Biu.receiving_rxne receiving)).elim

/-! ### Micro-operations: the actions -/

theorem wStart_protocolOk (hp : protocolAt s.bte s.biu .wStart = true) :
    (s.aStart.setSeq Seq.wWaitSb).protocolOk = true := by
  refine State.setSeq_protocolOk (i := .wWaitSb) _ rfl ?_
  simp only [protocolAt, Bool.and_eq_true, Bool.or_eq_true] at hp ⊢
  obtain ⟨⟨⟨quiet, hlen⟩, hw⟩, hr⟩ := hp
  exact ⟨⟨⟨.inl (State.aStart_startAsked quiet), hlen⟩, hw⟩, hr⟩

theorem rStart_protocolOk (hp : protocolAt s.bte s.biu .rStart = true) :
    (s.aStart.setSeq Seq.rWaitSb).protocolOk = true := by
  refine State.setSeq_protocolOk (i := .rWaitSb) _ rfl ?_
  simp only [protocolAt, Bool.and_eq_true, Bool.or_eq_true] at hp ⊢
  obtain ⟨⟨⟨before, hw⟩, hlen⟩, hr⟩ := hp
  refine ⟨⟨⟨.inl ?_, hw⟩, hlen⟩, hr⟩
  change (if s.bte.wlen = 0#8 then s.aStart.biu.startAsked else s.aStart.biu.allSent true) = true
  split_ifs at before ⊢
  · exact State.aStart_startAsked before
  · exact State.aStart_allSent before

theorem wAddr_protocolOk (hp : protocolAt s.bte s.biu .wAddr = true) :
    ((s.aDrWrite (addressByte s.bte.devaddr rwWrite)).setSeq Seq.wWaitAddr).protocolOk = true := by
  refine State.setSeq_protocolOk (i := .wWaitAddr) _ rfl ?_
  simp only [protocolAt, Bool.and_eq_true, Bool.or_eq_true, State.aDrWrite_bte] at hp ⊢
  obtain ⟨⟨⟨seen, hlen⟩, hw⟩, hr⟩ := hp
  exact ⟨⟨⟨.inl (.inl (State.aDrWrite_addressHeld seen _)), hlen⟩, hw⟩, hr⟩

theorem rAddr_protocolOk (hp : protocolAt s.bte s.biu .rAddr = true) :
    ((s.aDrWrite (addressByte s.bte.devaddr rwRead)).setSeq Seq.rAckpol).protocolOk = true := by
  refine State.setSeq_protocolOk (i := .rAckpol) _ rfl ?_
  simp only [protocolAt, Bool.and_eq_true, State.aDrWrite_bte] at hp ⊢
  obtain ⟨⟨seen, hlen⟩, hr⟩ := hp
  exact ⟨⟨State.aDrWrite_addressHeld seen _, hlen⟩, hr⟩

theorem rAckpol_protocolOk (hp : protocolAt s.bte s.biu .rAckpol = true) :
    ((s.aAck (preArmedAck s.bte.rlen)).setSeq Seq.rWaitAddr).protocolOk = true := by
  refine State.setSeq_protocolOk (i := .rWaitAddr) _ rfl ?_
  simp only [protocolAt, Bool.and_eq_true, Bool.or_eq_true, decide_eq_true_eq] at hp ⊢
  obtain ⟨⟨held, hlen⟩, hr⟩ := hp
  exact ⟨⟨⟨.inl (.inl held), hlen⟩, hr⟩, rfl⟩

theorem wClrAddr_protocolOk (hp : protocolAt s.bte s.biu .wClrAddr = true) :
    (s.aClrAddr.setSeq Seq.wData).protocolOk = true := by
  refine State.setSeq_protocolOk (i := .wData) _ rfl ?_
  simp only [protocolAt, Bool.and_eq_true, Bool.or_eq_true, decide_eq_true_eq, State.aClrAddr_bte] at hp ⊢
  obtain ⟨⟨⟨seen, hlen⟩, hw⟩, hr⟩ := hp
  exact ⟨⟨.inr ⟨State.aClrAddr_dataOpen seen, hw⟩, by rwa [hw]⟩, hr⟩

theorem rClrAddr_protocolOk (hp : protocolAt s.bte s.biu .rClrAddr = true) :
    (s.aClrAddr.setSeq Seq.rStage).protocolOk = true := by
  refine State.setSeq_protocolOk (i := .rStage) _ rfl ?_
  simp only [protocolAt, Bool.and_eq_true, decide_eq_true_eq, State.aClrAddr_bte] at hp ⊢
  obtain ⟨⟨⟨seen, hlen⟩, hr⟩, hack⟩ := hp
  obtain ⟨receiving, hstop, hpol⟩ := State.aClrAddr_receiving seen hlen hack
  rw [hr]
  exact ⟨⟨⟨receiving, hlen⟩, hpol⟩, hstop⟩

/-- The byte handed over is counted, and the count chooses the wait (R156). -/
theorem wData_protocolOk (hp : protocolAt s.bte s.biu .wData = true) (v : Byte) :
    ((s.aDrWrite v).countWritten.setSeq (afterWData (s.bte.widx + 1#8) s.bte.wlen)).protocolOk = true := by
  simp only [protocolAt, Bool.and_eq_true, Bool.or_eq_true, decide_eq_true_eq] at hp
  obtain ⟨⟨before, hlen⟩, hr⟩ := hp
  have waiting : (s.aDrWrite v).countWritten.biu.byteWaits = true := State.aDrWrite_byteWaits (before.imp id And.left) v
  have count := toNat_add_one hlen
  unfold afterWData
  split
  · next hmore =>
    refine State.setSeq_protocolOk (i := .wWaitTxe) _ rfl ?_
    simp only [protocolAt, Bool.and_eq_true, Bool.or_eq_true, decide_eq_true_eq, State.countWritten_bte, State.aDrWrite_bte]
    exact ⟨⟨.inl (.inl waiting), hmore⟩, hr⟩
  · next hlast =>
    have full : s.bte.widx + 1#8 = s.bte.wlen := BitVec.eq_of_toNat_eq (by omega)
    refine State.setSeq_protocolOk (i := .wWaitBtf) _ rfl ?_
    simp only [protocolAt, Bool.and_eq_true, Bool.or_eq_true, decide_eq_true_eq, State.countWritten_bte, State.aDrWrite_bte]
    exact ⟨⟨⟨.inl (.inl (.inl waiting)), by omega⟩, full⟩, hr⟩

theorem wStop_protocolOk (hp : protocolAt s.bte s.biu .wStop = true) : (s.aStop.setSeq Seq.done).protocolOk = true := by
  simp only [protocolAt, Bool.and_eq_true] at hp
  obtain ⟨⟨⟨⟨sent, -⟩, -⟩, -⟩, -⟩ := hp
  exact State.setSeq_protocolOk (i := .done) _ rfl (State.aStop_quiet sent)

theorem rStage_protocolOk (hp : protocolAt s.bte s.biu .rStage = true) :
    ((if isStaging s.bte.ridx s.bte.rlen then s.stageEnd else s).setSeq Seq.rWaitRxne).protocolOk = true := by
  refine State.setSeq_protocolOk (i := .rWaitRxne) _ rfl ?_
  simp only [protocolAt, Bool.and_eq_true, Bool.or_eq_true, decide_eq_true_eq] at hp ⊢
  obtain ⟨⟨⟨receiving, hlen⟩, hack⟩, hstop⟩ := hp
  split
  · next staging =>
    have staged : s.bte.stages := (isStaging_iff s.bte).1 staging
    unfold Bte.stages at staged
    rw [State.stageEnd_bte, State.stageEnd_biu receiving]
    exact ⟨.inr ⟨⟨receiving, (decide_eq_false (by omega)).symm⟩, (decide_eq_true (by omega)).symm⟩, hlen⟩
  · next passing =>
    have passed : ¬ s.bte.stages := mt (isStaging_iff s.bte).2 passing
    unfold Bte.stages at passed
    rw [hack, hstop, ← Bool.decide_and]
    exact ⟨.inr ⟨⟨receiving, decide_eq_decide.2 (by omega)⟩, decide_eq_decide.2 (by omega)⟩, hlen⟩

/-- The byte copied out is counted, and the count chooses whether another is received (R168). -/
theorem rData_protocolOk (hp : protocolAt s.bte s.biu .rData = true) (v : Byte) :
    ((s.aDrRead.writeByte .rbuf s.bte.ridx.toNat v).countRead.setSeq (afterRData (s.bte.ridx + 1#8) s.bte.rlen)).protocolOk
      = true := by
  simp only [protocolAt, Bool.and_eq_true, decide_eq_true_eq] at hp
  obtain ⟨received, hlen⟩ := hp
  have count := toNat_add_one hlen
  unfold afterRData
  split
  · next hmore =>
    obtain ⟨receiving, hack, hstop⟩ := State.aDrRead_receiving received (by omega)
    refine State.setSeq_protocolOk (i := .rStage) _ rfl ?_
    simp only [protocolAt, Bool.and_eq_true, decide_eq_true_eq, State.countRead_bte, State.countRead_biu, State.writeByte_bte,
      State.writeByte_biu, State.aDrRead_bte, count, hack, hstop, ← Bool.decide_and]
    exact ⟨⟨⟨receiving, by omega⟩, trivial⟩, decide_eq_decide.2 (by omega)⟩
  · next hlast => exact State.setSeq_protocolOk (i := .done) _ rfl (State.aDrRead_quiet received (by omega))

end

theorem waitThen_protocolOk {s : State} {flag : Bool} {c : BitVec 5} (hf : flag = true) (h : (s.setSeq c).protocolOk = true) :
    (s.waitThen flag c).protocolOk = true := by
  rw [hf]
  exact h

/-- Every micro-operation with an enabled step keeps the invariant. -/
theorem exec_ready_protocolOk {s t : State} {i : Instr} (hp : protocolAt s.bte s.biu i = true)
    (hr : microReady s.biu i = true) (h : exec i s = .next t) : t.protocolOk = true := by
  cases i with
  | idle => cases hr
  | wStart => cases h; exact wStart_protocolOk hp
  | wWaitSb => cases h; exact waitThen_protocolOk hr (wWaitSb_protocolOk hp hr)
  | wAddr => cases h; exact wAddr_protocolOk hp
  | wWaitAddr => cases h; exact waitThen_protocolOk hr (wWaitAddr_protocolOk hp hr)
  | wClrAddr => cases h; exact wClrAddr_protocolOk hp
  | wData => cases h; exact wData_protocolOk hp _
  | wWaitTxe => cases h; exact waitThen_protocolOk hr (wWaitTxe_protocolOk hp hr)
  | wWaitBtf => cases h; exact waitThen_protocolOk hr (wWaitBtf_protocolOk hp hr)
  | wStop => cases h; exact wStop_protocolOk hp
  | rStart => cases h; exact rStart_protocolOk hp
  | rWaitSb => cases h; exact waitThen_protocolOk hr (rWaitSb_protocolOk hp hr)
  | rAddr => cases h; exact rAddr_protocolOk hp
  | rAckpol => cases h; exact rAckpol_protocolOk hp
  | rWaitAddr => cases h; exact waitThen_protocolOk hr (rWaitAddr_protocolOk hp hr)
  | rClrAddr => cases h; exact rClrAddr_protocolOk hp
  | rStage => cases h; exact rStage_protocolOk hp
  | rWaitRxne => cases h; exact waitThen_protocolOk hr (rWaitRxne_protocolOk hp hr)
  | rData => cases h; exact rData_protocolOk hp _
  | done => cases h; exact protocolOk_of_quiet_idle rfl hp
  | _ => cases hp

theorem exec_micro_protocolOk {s t : State} {i : Instr} (hd : decodeSeq s.bte.seq = .ok i) (hs : s.protocolOk = true)
    (h : exec i s = .next t) : t.protocolOk = true := by
  cases hr : microReady s.biu i
  · rw [exec_of_not_microReady hr] at h
    cases h
    exact hs
  · obtain ⟨j, hj, hp⟩ := s.protocolOk_iff.1 hs
    obtain rfl : i = j := Except.ok.inj (hd.symm.trans hj)
    exact exec_ready_protocolOk hp hr h

/-! ### Every step -/

theorem EngineTurn.protocolOk {s t : State} (h : EngineTurn s t) (hsched : s.par.sched = .enginePriority)
    (hs : s.protocolOk = true) : t.protocolOk = true := by
  cases h with
  | kept h => exact h.protocolOk hs
  | micro i hd h => exact exec_micro_protocolOk hd hs h
  | move h => rw [h]; exact State.biuTurn_protocolOk hsched hs
  | command i u hk hidle hu h => exact exec_bteCommand_protocolOk hk (hu.bte ▸ hidle) (hu.protocolOk hs) h

/-- Settles O57: reset and every kind of turn lead from a state in step to a state in step. -/
theorem engineAndBusStayInStep : Obligations.EngineAndBusStayInStep := by
  intro s t hsched hs h
  obtain ⟨-, rfl⟩ | ⟨-, hturn⟩ := step_cases h
  · rfl
  · exact hturn.protocolOk hsched hs

end Sys2Proof.Machine
end

section
/-! # A whole transaction (40_bus_transaction_engine.md R170, 30_encoding.md R128)

With no turn listed the sequencer goes before the BIU, and while a transaction runs one of the two can always move. A transaction is then
one chain of steps: the start and the address, the write bytes one by one, the repeated start and the address, the read bytes one by
one, the stop. What the chain moves is written out as a `Progress`; all else is as it was at the beginning. -/

namespace Sys2Proof.Machine

/-! ### Steps when no turn is listed -/

section
variable {s t u : State}

/-- The sequencer has the turn whenever it has an enabled step. -/
theorem step_quiet_micro {i : Instr} (hq : s.env.agenda = []) (hd : decodeSeq s.bte.seq = .ok i)
    (hr : microReady s.biu i = true) : step s = exec i s := by
  have ready : seqReady s.bte.seq s.biu = true := (seqReady_eq_microReady hd s.biu).trans hr
  have turn : s.quietTurn = .seq := by simp [State.quietTurn, ready]
  rw [step_of_quiet s hq, turn, s.dropTurn_quiet hq]
  simp [takeTurn, seqTurn, hd]

/-- Else the BIU has it, when a move is enabled, under either schedule. -/
theorem step_quiet_move {m : Move} (hq : s.env.agenda = []) (hr : seqReady s.bte.seq s.biu = false)
    (hm : s.biu.nextMove = some m) : step s = .next (s.takeMove m) := by
  have may : s.biuMayMove = true := by
    unfold State.biuMayMove
    split <;> simp [hr]
  have choice : s.biuChoice = some m := by simp [State.biuChoice, may, hm]
  have turn : s.quietTurn = .biu := by simp [State.quietTurn, hr, choice]
  rw [step_of_quiet s hq, turn, s.dropTurn_quiet hq]
  simp [takeTurn, State.biuTurn, choice]

/-- Some number of steps lead from one state to the other. -/
def Reaches (s t : State) : Prop := ∃ k, Sys2Proof.core.run k s = .next t

theorem core_run_succ (k : Nat) (h : step s = .next t) : Sys2Proof.core.run (k + 1) s = Sys2Proof.core.run k t := by
  simp only [Host.Core.run, Sys2Proof.core, h]

theorem Reaches.of_step (h : step s = .next t) : Reaches s t := ⟨1, core_run_succ 0 h⟩

theorem core_run_add (j k : Nat) (s : State) (h : Sys2Proof.core.run j s = .next t) :
    Sys2Proof.core.run (j + k) s = Sys2Proof.core.run k t := by
  induction j generalizing s with
  | zero => cases h; rw [Nat.zero_add]
  | succ j ih =>
    rw [Nat.add_right_comm]
    cases hs : step s with
    | next u =>
      rw [core_run_succ _ hs] at h ⊢
      exact ih u h
    | fault r => simp [Host.Core.run, Sys2Proof.core, hs] at h
    | refused r => simp [Host.Core.run, Sys2Proof.core, hs] at h

theorem Reaches.trans (h : Reaches s t) (h' : Reaches t u) : Reaches s u := by
  obtain ⟨j, hj⟩ := h
  obtain ⟨k, hk⟩ := h'
  exact ⟨j + k, (core_run_add j k s hj).trans hk⟩

end

/-! ### What a transaction moves -/

/-- The registers, the BIU, the wire, `RBUF` and the answers of the device still to come, at a point of a transaction. -/
structure Progress where
  seq : BitVec 5
  widx : BitVec 8
  ridx : BitVec 8
  biu : Biu
  wire : List Symbol
  rbuf : Memory
  acks : List Bool
  bytes : List Byte

/-- More symbols on the wire. -/
def Progress.emit (p : Progress) (xs : List Symbol) : Progress := { p with wire := p.wire ++ xs }

/-- The state `s`, whose operand registers are the transaction's, at that point of it. -/
def State.atPoint (s : State) (p : Progress) : State :=
  { s with
    bte := { s.bte with seq := p.seq, widx := p.widx, ridx := p.ridx }, biu := p.biu, wire := p.wire, rbuf := p.rbuf,
    env := { s.env with agenda := [], acks := p.acks, bytes := p.bytes } }

section
variable {s : State} {p q : Progress}

theorem reaches_micro (i : Instr) (hd : decodeSeq p.seq = .ok i) (hr : microReady p.biu i = true)
    (h : exec i (s.atPoint p) = .next (s.atPoint q)) : Reaches (s.atPoint p) (s.atPoint q) :=
  .of_step ((step_quiet_micro (s := s.atPoint p) rfl hd hr).trans h)

theorem reaches_move (m : Move) (hr : seqReady p.seq p.biu = false) (hm : p.biu.nextMove = some m)
    (h : (s.atPoint p).takeMove m = s.atPoint q) : Reaches (s.atPoint p) (s.atPoint q) :=
  .of_step ((step_quiet_move (s := s.atPoint p) rfl hr hm).trans (congrArg _ h))

end

/-- The BIU with nothing under way: what its two byte registers and its two acknowledge bits hold. -/
def Biu.resting (dr sh : Byte) (ackl acken : Bool) : Biu :=
  { mode := .idle, claim := false, dr := dr, drf := false, sh := sh, shf := false, ackl := ackl, acken := acken,
    startreq := false, stopreq := false, sb := false, addr := false, txe := false, btf := false, rxne := false }

/-- The start condition is on the bus. -/
def Biu.started (b : Biu) : Biu := { b with mode := .started, claim := true, sb := true }

/-- The address byte `a` is handed over. -/
def Biu.calling (b : Biu) (a : Byte) : Biu := { b with mode := .started, claim := true, dr := a, drf := true }

/-- The device has acknowledged the address byte `a`. -/
def Biu.answered (b : Biu) (mode : Mode) (a : Byte) : Biu := { b with mode := mode, claim := true, dr := a, addr := true }

theorem Biu.eq_resting {b : Biu} (h : b.quiet = true) : b = Biu.resting b.dr b.sh b.ackl b.acken := by
  cases b
  simp_all [Biu.quiet, Biu.noFlags, Biu.resting]

theorem Biu.resting_quiet (dr sh : Byte) (ackl acken : Bool) : (Biu.resting dr sh ackl acken).quiet = true := rfl

/-- A device that acknowledges its address: the direction bit settles the mode (41_bus_interface_unit.md R190). -/
theorem State.mAddr_acked {s : State} {mode : Mode} (h : s.devAddrAck s.biu.dr = true)
    (hm : (if isWriteAddress s.biu.dr then Mode.addrTx else .addrRx) = mode) :
    s.mAddr = { ((s.emit (.address s.biu.dr)).emit .deviceAck).ackAsked with
      biu := { s.biu.flagsAddressAcked with drf := false, mode := mode } } := by
  subst hm
  exact if_pos h

/-! ### The write phase -/

section
variable (s : State) (p : Progress) (dr sh : Byte) (ackl acken : Bool) (acks : List Bool)

/-- Start condition and address, to the point where the first byte can be handed over. -/
theorem reaches_wData :
    Reaches
      (s.atPoint { p with seq := Seq.wStart, biu := .resting dr sh ackl acken, acks := true :: acks })
      (s.atPoint { p with
        seq := Seq.wData,
        biu := { Biu.resting (addressByte s.bte.devaddr rwWrite) sh ackl acken with mode := .tx, claim := true, txe := true },
        wire := p.wire ++ [.start, .address (addressByte s.bte.devaddr rwWrite), .deviceAck], acks := acks }) := by
  let a := addressByte s.bte.devaddr rwWrite
  let rest := Biu.resting dr sh ackl acken
  let asking : Progress := { p with acks := true :: acks }
  let calling : Progress := asking.emit [.start]
  let answered : Progress := { (calling.emit [.address a]).emit [.deviceAck] with acks := acks }
  have request : Reaches (s.atPoint { asking with seq := Seq.wStart, biu := rest })
      (s.atPoint { asking with seq := Seq.wWaitSb, biu := { rest with startreq := true } }) :=
    reaches_micro .wStart rfl rfl rfl
  have start : Reaches _ (s.atPoint { calling with seq := Seq.wWaitSb, biu := rest.started }) :=
    request.trans (reaches_move .start rfl rfl rfl)
  have started : Reaches _ (s.atPoint { calling with seq := Seq.wAddr, biu := rest.started }) :=
    start.trans (reaches_micro .wWaitSb rfl rfl rfl)
  have handed : Reaches _ (s.atPoint { calling with seq := Seq.wWaitAddr, biu := rest.calling a }) :=
    started.trans (reaches_micro .wAddr rfl rfl rfl)
  have acked : Reaches _ (s.atPoint { answered with seq := Seq.wWaitAddr, biu := rest.answered .addrTx a }) :=
    handed.trans (reaches_move .addr rfl rfl (State.mAddr_acked rfl (if_pos (isWriteAddress_write _))))
  have seen : Reaches _ (s.atPoint { answered with seq := Seq.wClrAddr, biu := rest.answered .addrTx a }) :=
    acked.trans (reaches_micro .wWaitAddr rfl rfl rfl)
  have opened : Reaches _
      (s.atPoint { answered with seq := Seq.wData, biu := { rest with mode := .tx, claim := true, dr := a, txe := true } }) :=
    seen.trans (reaches_micro .wClrAddr rfl rfl rfl)
  simpa [Progress.emit, Biu.resting, asking, calling, answered, rest, a] using opened

/-- The BIU while the byte `v` is in `SH` and `DR` is free for the next. -/
def Biu.shifting (v : Byte) (ackl acken : Bool) : Biu :=
  { Biu.resting v v ackl acken with mode := .tx, claim := true, shf := true, txe := true }

/-- The BIU when `v`, the last byte, has been clocked out. -/
def Biu.drainedOf (v : Byte) (ackl acken : Bool) : Biu :=
  { Biu.resting v v ackl acken with mode := .tx, claim := true, txe := true, btf := true }

/-- Data bytes from master to device, each acknowledged. -/
def sendSymbols (ws : List Byte) : List Symbol := ws.flatMap (fun w => [.dataOut w, .deviceAck])

/-- The `k` entries of `WBUF` from `i` on. -/
def State.writeBytesFrom (s : State) (i k : Nat) : List Byte := (List.range' i k).map (fun j => s.loadByte .wbuf j)

/-- A byte just handed over leaves neither `TXE` nor `BTF` to go on by. -/
theorem afterWData_waits {widx wlen : BitVec 8} {b : Biu} (htxe : b.txe = false) (hbtf : b.btf = false) :
    seqReady (afterWData widx wlen) b = false := by
  unfold afterWData
  split
  · exact htxe
  · exact hbtf

/-- While the byte `v` is in `SH` the next one is handed over; then `v` goes on the wire and the next one to `SH`. -/
theorem reaches_shifting_next (v : Byte) :
    Reaches
      (s.atPoint { p with seq := Seq.wWaitTxe, biu := .shifting v ackl acken, acks := true :: acks })
      (s.atPoint { p with
        seq := afterWData (p.widx + 1#8) s.bte.wlen, widx := p.widx + 1#8,
        biu := .shifting (s.loadByte .wbuf p.widx.toNat) ackl acken, wire := p.wire ++ [.dataOut v, .deviceAck],
        acks := acks }) := by
  let w := s.loadByte .wbuf p.widx.toNat
  let given : Progress := { p with seq := afterWData (p.widx + 1#8) s.bte.wlen, widx := p.widx + 1#8 }
  let sent : Progress := { (given.emit [.dataOut v]).emit [.deviceAck] with acks := acks }
  have empty : Reaches (s.atPoint { p with seq := Seq.wWaitTxe, biu := .shifting v ackl acken, acks := true :: acks })
      (s.atPoint { p with seq := Seq.wData, biu := .shifting v ackl acken, acks := true :: acks }) :=
    reaches_micro .wWaitTxe rfl rfl rfl
  have handed : Reaches _
      (s.atPoint { given with
        biu := { Biu.shifting v ackl acken with dr := w, drf := true, txe := false }, acks := true :: acks }) :=
    empty.trans (reaches_micro .wData rfl rfl rfl)
  have clocked : Reaches _
      (s.atPoint { sent with biu := { Biu.shifting v ackl acken with dr := w, drf := true, shf := false, txe := false } }) :=
    handed.trans (reaches_move .txbyte (afterWData_waits rfl rfl) rfl rfl)
  have loaded : Reaches _ (s.atPoint { sent with biu := .shifting w ackl acken }) :=
    clocked.trans (reaches_move .txload (afterWData_waits rfl rfl) rfl rfl)
  simpa [Progress.emit, given, sent, w] using loaded

/-- The last byte goes on the wire. -/
theorem reaches_shifting_last (v : Byte) :
    Reaches
      (s.atPoint { p with seq := Seq.wWaitBtf, biu := .shifting v ackl acken, acks := true :: acks })
      (s.atPoint { p with
        seq := Seq.wWaitBtf, biu := .drainedOf v ackl acken, wire := p.wire ++ [.dataOut v, .deviceAck], acks := acks }) := by
  let sent : Progress := (p.emit [.dataOut v]).emit [.deviceAck]
  have clocked : Reaches (s.atPoint { p with seq := Seq.wWaitBtf, biu := .shifting v ackl acken, acks := true :: acks })
      (s.atPoint { sent with seq := Seq.wWaitBtf, biu := .drainedOf v ackl acken, acks := acks }) :=
    reaches_move .txbyte rfl rfl rfl
  simpa [Progress.emit, sent] using clocked

/-- From a byte in `SH`, with `WIDX` bytes handed over and `k` still to hand over, to the point where all are sent. -/
theorem reaches_drained (k : Nat) (p : Progress) (v : Byte) (hk : p.widx.toNat + k = s.bte.wlen.toNat) :
    ∃ w, Reaches
      (s.atPoint { p with
        seq := afterWData p.widx s.bte.wlen, biu := .shifting v ackl acken, acks := List.replicate (k + 1) true ++ acks })
      (s.atPoint { p with
        seq := Seq.wWaitBtf, widx := s.bte.wlen, biu := .drainedOf w ackl acken,
        wire := p.wire ++ sendSymbols (v :: s.writeBytesFrom p.widx.toNat k), acks := acks }) := by
  induction k generalizing p v with
  | zero =>
    have full : p.widx = s.bte.wlen := BitVec.eq_of_toNat_eq hk
    have last : afterWData p.widx s.bte.wlen = Seq.wWaitBtf := if_neg (by omega)
    rw [last, ← full]
    exact ⟨v, reaches_shifting_last s p ackl acken acks v⟩
  | succ k ih =>
    have more : afterWData p.widx s.bte.wlen = Seq.wWaitTxe := if_pos (by omega)
    have count : (p.widx + 1#8).toNat = p.widx.toNat + 1 := toNat_add_one (n := s.bte.wlen) (by omega)
    have next := reaches_shifting_next s p ackl acken (List.replicate (k + 1) true ++ acks) v
    obtain ⟨w, rest⟩ := ih { p with widx := p.widx + 1#8, wire := p.wire ++ [.dataOut v, .deviceAck] }
      (s.loadByte .wbuf p.widx.toNat) (by simp only [count]; omega)
    rw [more]
    refine ⟨w, ?_⟩
    simpa [List.replicate_succ, sendSymbols, State.writeBytesFrom, List.range'_succ, count] using next.trans rest

/-- The whole write phase: start, address and the `WLEN` bytes of `WBUF`, to the wait for the last of them. -/
theorem reaches_wWaitBtf (hm : 0 < s.bte.wlen.toNat) :
    ∃ w, Reaches
      (s.atPoint { p with
        seq := Seq.wStart, widx := 0#8, biu := .resting dr sh ackl acken,
        acks := List.replicate (s.bte.wlen.toNat + 1) true ++ acks })
      (s.atPoint { p with
        seq := Seq.wWaitBtf, widx := s.bte.wlen, biu := .drainedOf w ackl acken,
        wire := p.wire ++ .start :: writeSymbols s.bte.devaddr (s.writeBytes s.bte.wlen.toNat), acks := acks }) := by
  let a := addressByte s.bte.devaddr rwWrite
  let k := s.bte.wlen.toNat - 1
  have hk : s.bte.wlen.toNat = k + 1 := by omega
  let v := s.loadByte .wbuf 0
  let as := List.replicate (k + 1) true ++ acks
  let called : Progress := { p with wire := p.wire ++ [.start, .address a, .deviceAck], acks := as }
  have opened := reaches_wData s { p with widx := 0#8 } dr sh ackl acken as
  have handed : Reaches
      (s.atPoint { called with
        seq := Seq.wData, widx := 0#8, biu := { Biu.resting a sh ackl acken with mode := .tx, claim := true, txe := true } })
      (s.atPoint { called with
        seq := afterWData 1#8 s.bte.wlen, widx := 1#8,
        biu := { Biu.resting v sh ackl acken with mode := .tx, claim := true, drf := true } }) :=
    reaches_micro .wData rfl rfl rfl
  have loaded : Reaches _
      (s.atPoint { called with seq := afterWData 1#8 s.bte.wlen, widx := 1#8, biu := .shifting v ackl acken }) :=
    handed.trans (reaches_move .txload (afterWData_waits rfl rfl) rfl rfl)
  obtain ⟨w, rest⟩ := reaches_drained s ackl acken acks k { called with widx := 1#8 } v (by rw [hk]; exact Nat.add_comm 1 k)
  refine ⟨w, ?_⟩
  have bytes : s.writeBytes s.bte.wlen.toNat = v :: s.writeBytesFrom 1 k := by
    simp [State.writeBytes, State.writeBytesFrom, hk, List.range_eq_range', List.range'_succ, v]
  rw [bytes, hk]
  simpa [called, a, as, List.replicate_succ, writeSymbols, sendSymbols] using opened.trans (loaded.trans rest)

end

/-! ### The read phase -/

/-- The bytes written to consecutive entries of `RBUF`, the first at `i`. -/
def Memory.writeFrom (m : Memory) (i : Nat) : List Byte → Memory
  | [] => m
  | b :: bs => Memory.writeFrom (Memory.write .rbuf m i b) (i + 1) bs

theorem Memory.read_writeFrom_below (m : Memory) (i j : Nat) (bs : List Byte) (h : j < i) :
    Memory.read .rbuf (Memory.writeFrom m i bs) j = Memory.read .rbuf m j := by
  induction bs generalizing m i with
  | nil => rfl
  | cons b bs ih => exact (ih _ (i + 1) (by omega)).trans (Memory.read_write_other .rbuf m i j b (by omega))

theorem Memory.read_writeFrom_inside (m : Memory) (i k : Nat) (bs : List Byte) (h : k < bs.length) :
    Memory.read .rbuf (Memory.writeFrom m i bs) (i + k) = bs[k]? := by
  induction bs generalizing m i k with
  | nil => simp at h
  | cons b bs ih =>
    cases k with
    | zero =>
      calc Memory.read .rbuf (Memory.writeFrom (Memory.write .rbuf m i b) (i + 1) bs) i
        _ = Memory.read .rbuf (Memory.write .rbuf m i b) i := Memory.read_writeFrom_below _ (i + 1) i bs (by omega)
        _ = some b := Memory.read_write_same_of_unlisted .rbuf m i b rfl
    | succ k =>
      have inside := ih (Memory.write .rbuf m i b) (i + 1) k (by simpa using h)
      rwa [Nat.add_right_comm, Nat.add_assoc] at inside

theorem Memory.read_writeFrom_above (m : Memory) (i j : Nat) (bs : List Byte) (h : i + bs.length ≤ j) :
    Memory.read .rbuf (Memory.writeFrom m i bs) j = Memory.read .rbuf m j := by
  induction bs generalizing m i with
  | nil => rfl
  | cons b bs ih =>
    rw [List.length_cons] at h
    exact (ih _ (i + 1) (by omega)).trans (Memory.read_write_other .rbuf m i j b (by omega))

/-- The BIU while a byte is being received: `more` says that another follows, which both the policy and the decision latched for this
byte agree on. -/
def Biu.receivingOf (dr sh : Byte) (more stopreq : Bool) : Biu :=
  { Biu.resting dr sh more more with mode := .rx, claim := true, stopreq := stopreq }

section
variable (s : State) (p : Progress) (dr sh : Byte)

/-- Start condition and address, on a free bus or after a write phase, to the reception of the first byte. -/
theorem reaches_rStage (ackl acken claimed : Bool) (acks : List Bool) :
    Reaches
      (s.atPoint { p with
        seq := Seq.rStart,
        biu := { Biu.resting dr sh ackl acken with
          mode := if claimed then .tx else .idle, claim := claimed, txe := claimed, btf := claimed },
        acks := true :: acks })
      (s.atPoint { p with
        seq := Seq.rStage,
        biu := .receivingOf (addressByte s.bte.devaddr rwRead) sh (preArmedAck s.bte.rlen) false,
        wire := p.wire ++
          [if claimed then .restart else .start, .address (addressByte s.bte.devaddr rwRead), .deviceAck],
        acks := acks }) := by
  let a := addressByte s.bte.devaddr rwRead
  let armed := preArmedAck s.bte.rlen
  let rest := Biu.resting dr sh ackl acken
  let before : Biu := { rest with mode := if claimed then .tx else .idle, claim := claimed, txe := claimed, btf := claimed }
  let asking : Progress := { p with acks := true :: acks }
  let calling : Progress := asking.emit [if claimed then .restart else .start]
  let answered : Progress := { (calling.emit [.address a]).emit [.deviceAck] with acks := acks }
  have request : Reaches (s.atPoint { asking with seq := Seq.rStart, biu := before })
      (s.atPoint { asking with seq := Seq.rWaitSb, biu := { before with startreq := true } }) :=
    reaches_micro .rStart rfl rfl rfl
  have start : Reaches _ (s.atPoint { calling with seq := Seq.rWaitSb, biu := rest.started }) :=
    request.trans (reaches_move .start rfl (by cases claimed <;> rfl) rfl)
  have started : Reaches _ (s.atPoint { calling with seq := Seq.rAddr, biu := rest.started }) :=
    start.trans (reaches_micro .rWaitSb rfl rfl rfl)
  have handed : Reaches _ (s.atPoint { calling with seq := Seq.rAckpol, biu := rest.calling a }) :=
    started.trans (reaches_micro .rAddr rfl rfl rfl)
  have policy : Reaches _ (s.atPoint { calling with seq := Seq.rWaitAddr, biu := { rest.calling a with acken := armed } }) :=
    handed.trans (reaches_micro .rAckpol rfl rfl rfl)
  have acked : Reaches _
      (s.atPoint { answered with seq := Seq.rWaitAddr, biu := { rest.answered .addrRx a with acken := armed } }) :=
    policy.trans (reaches_move .addr rfl rfl (State.mAddr_acked rfl (if_neg (isWriteAddress_read _))))
  have seen : Reaches _
      (s.atPoint { answered with seq := Seq.rClrAddr, biu := { rest.answered .addrRx a with acken := armed } }) :=
    acked.trans (reaches_micro .rWaitAddr rfl rfl rfl)
  have opened : Reaches _ (s.atPoint { answered with seq := Seq.rStage, biu := .receivingOf a sh armed false }) :=
    seen.trans (reaches_micro .rClrAddr rfl rfl rfl)
  simpa [Progress.emit, asking, calling, answered, rest, before, a, armed] using opened

/-- The staging act, one byte early: after it the policy is that of the byte after the next, and the stop is requested exactly when
there is none (40_bus_transaction_engine.md R166). -/
theorem exec_rStage_receiving {more stopreq policy : Bool} (hlen : p.ridx.toNat < s.bte.rlen.toNat)
    (hmore : more = decide (p.ridx.toNat + 1 < s.bte.rlen.toNat))
    (hstop : stopreq = decide (0 < p.ridx.toNat ∧ p.ridx.toNat + 1 = s.bte.rlen.toNat))
    (hpol : policy = decide (p.ridx.toNat + 2 < s.bte.rlen.toNat)) :
    exec .rStage (s.atPoint { p with seq := Seq.rStage, biu := .receivingOf dr sh more stopreq }) =
      .next (s.atPoint { p with
        seq := Seq.rWaitRxne, biu := { Biu.receivingOf dr sh more stopreq with acken := policy, stopreq := !policy } }) := by
  let t := s.atPoint { p with seq := Seq.rStage, biu := .receivingOf dr sh more stopreq }
  by_cases hstage : t.bte.stages
  · have staged := hstage
    unfold Bte.stages at staged
    change (2 ≤ s.bte.rlen.toNat ∧ p.ridx.toNat = s.bte.rlen.toNat - 2) ∨ (s.bte.rlen.toNat = 1 ∧ p.ridx.toNat = 0) at staged
    have last : policy = false := hpol.trans (decide_eq_false (by omega))
    have wait : ¬ (t.aAck false).biu.stopCanGo := by simp [t, State.atPoint, Biu.receivingOf, Biu.stopCanGo]
    rw [exec_rStage_staging hstage, State.stageEnd, State.aStop_waits wait, last]
    rfl
  · have passed := hstage
    unfold Bte.stages at passed
    change ¬ ((2 ≤ s.bte.rlen.toNat ∧ p.ridx.toNat = s.bte.rlen.toNat - 2) ∨ (s.bte.rlen.toNat = 1 ∧ p.ridx.toNat = 0)) at passed
    have same : policy = more := by rw [hpol, hmore]; exact decide_eq_decide.2 (by omega)
    have kept : (!policy) = stopreq := by rw [hpol, hstop, ← decide_not]; exact decide_eq_decide.2 (by omega)
    rw [exec_rStage_passing hstage, kept, same]
    rfl

/-- The last byte: it is refused, the stop follows it on the wire, and the transaction is done (R193). -/
theorem reaches_done (r : Byte) (bytes : List Byte) (hlast : p.ridx.toNat + 1 = s.bte.rlen.toNat) :
    Reaches
      (s.atPoint { p with
        seq := Seq.rStage, biu := .receivingOf dr sh false (decide (0 < p.ridx.toNat)), bytes := r :: bytes })
      (s.atPoint { p with
        seq := Seq.done, ridx := s.bte.rlen, biu := .resting r sh false false,
        wire := p.wire ++ [.dataIn r, .masterNack, .stop], rbuf := Memory.write .rbuf p.rbuf p.ridx.toNat r, bytes := bytes }) := by
  have count : p.ridx + 1#8 = s.bte.rlen := by bv_omega
  have last : afterRData s.bte.rlen s.bte.rlen = Seq.done := if_neg (by omega)
  let coming : Progress := { p with bytes := r :: bytes }
  let taken : Progress := { ((p.emit [.dataIn r]).emit [.masterNack]).emit [.stop] with bytes := bytes }
  have staged : Reaches (s.atPoint { coming with seq := Seq.rStage, biu := .receivingOf dr sh false (decide (0 < p.ridx.toNat)) })
      (s.atPoint { coming with
        seq := Seq.rWaitRxne,
        biu := { Biu.receivingOf dr sh false (decide (0 < p.ridx.toNat)) with acken := false, stopreq := true } }) :=
    reaches_micro .rStage rfl rfl (exec_rStage_receiving s coming dr sh (by simp [coming]; omega) (by simp [coming]; omega)
      (by simp [coming, hlast]) (by simp [coming]; omega))
  have stopped : Reaches _
      (s.atPoint { taken with seq := Seq.rWaitRxne, biu := { Biu.resting r sh false false with drf := true, rxne := true } }) :=
    staged.trans (reaches_move .rxbyte rfl rfl rfl)
  have seen : Reaches _
      (s.atPoint { taken with seq := Seq.rData, biu := { Biu.resting r sh false false with drf := true, rxne := true } }) :=
    stopped.trans (reaches_micro .rWaitRxne rfl rfl rfl)
  have copied : Reaches _
      (s.atPoint { taken with
        seq := afterRData (p.ridx + 1#8) s.bte.rlen, ridx := p.ridx + 1#8, biu := .resting r sh false false,
        rbuf := Memory.write .rbuf p.rbuf p.ridx.toNat r }) :=
    seen.trans (reaches_micro .rData rfl rfl rfl)
  simpa [Progress.emit, coming, taken, count, last] using copied

/-- A byte that another one follows: it is acknowledged, and the reception of the next starts with the policy as the staging left it. -/
theorem reaches_next (r : Byte) (bytes : List Byte) {more stopreq : Bool} (hlen : p.ridx.toNat + 1 < s.bte.rlen.toNat)
    (hmore : more = decide (p.ridx.toNat + 2 < s.bte.rlen.toNat)) (hstop : stopreq = !more) :
    Reaches
      (s.atPoint { p with seq := Seq.rStage, biu := .receivingOf dr sh true false, bytes := r :: bytes })
      (s.atPoint { p with
        seq := Seq.rStage, ridx := p.ridx + 1#8, biu := .receivingOf r sh more stopreq,
        wire := p.wire ++ [.dataIn r, .masterAck], rbuf := Memory.write .rbuf p.rbuf p.ridx.toNat r, bytes := bytes }) := by
  subst hstop
  have count : (p.ridx + 1#8).toNat = p.ridx.toNat + 1 := toNat_add_one (n := s.bte.rlen) (by omega)
  have again : afterRData (p.ridx + 1#8) s.bte.rlen = Seq.rStage := if_pos (by omega)
  let coming : Progress := { p with bytes := r :: bytes }
  let taken : Progress := { (p.emit [.dataIn r]).emit [.masterAck] with bytes := bytes }
  have staged : Reaches (s.atPoint { coming with seq := Seq.rStage, biu := .receivingOf dr sh true false })
      (s.atPoint { coming with
        seq := Seq.rWaitRxne, biu := { Biu.receivingOf dr sh true false with acken := more, stopreq := !more } }) :=
    reaches_micro .rStage rfl rfl (exec_rStage_receiving s coming dr sh (by simp [coming]; omega) (by simp [coming]; omega)
      (by simp [coming]; omega) hmore)
  have received : Reaches _
      (s.atPoint { taken with
        seq := Seq.rWaitRxne, biu := { Biu.receivingOf r sh more (!more) with drf := true, rxne := true } }) :=
    staged.trans (reaches_move .rxbyte rfl rfl rfl)
  have seen : Reaches _
      (s.atPoint { taken with seq := Seq.rData, biu := { Biu.receivingOf r sh more (!more) with drf := true, rxne := true } }) :=
    received.trans (reaches_micro .rWaitRxne rfl rfl rfl)
  have copied : Reaches _
      (s.atPoint { taken with
        seq := afterRData (p.ridx + 1#8) s.bte.rlen, ridx := p.ridx + 1#8, biu := .receivingOf r sh more (!more),
        rbuf := Memory.write .rbuf p.rbuf p.ridx.toNat r }) :=
    seen.trans (reaches_micro .rData rfl rfl rfl)
  simpa [Progress.emit, coming, taken, again] using copied

end

/-- All bytes still to be read, from the reception of the first of them to the end. -/
theorem reaches_done_of_receiving (s : State) (sh : Byte) (bytes : List Byte) (rs : List Byte) (r : Byte) (p : Progress)
    (dr : Byte) (hlen : p.ridx.toNat + rs.length + 1 = s.bte.rlen.toNat) :
    ∃ d, Reaches
      (s.atPoint { p with
        seq := Seq.rStage, biu := .receivingOf dr sh (!rs.isEmpty) (rs.isEmpty && decide (0 < p.ridx.toNat)),
        bytes := r :: rs ++ bytes })
      (s.atPoint { p with
        seq := Seq.done, ridx := s.bte.rlen, biu := .resting d sh false false,
        wire := p.wire ++ receiveSymbols (r :: rs) ++ [.stop], rbuf := Memory.writeFrom p.rbuf p.ridx.toNat (r :: rs),
        bytes := bytes }) := by
  induction rs generalizing r p dr with
  | nil =>
    have last := reaches_done s p dr sh r bytes (by simpa using hlen)
    exact ⟨r, by simpa [receiveSymbols, Memory.writeFrom] using last⟩
  | cons r' rs ih =>
    rw [List.length_cons] at hlen
    have count : (p.ridx + 1#8).toNat = p.ridx.toNat + 1 := toNat_add_one (n := s.bte.rlen) (by omega)
    have follows : (!rs.isEmpty) = decide (p.ridx.toNat + 2 < s.bte.rlen.toNat) := by
      cases rs <;> simp at hlen ⊢ <;> omega
    let taken : Progress :=
      { p with
        ridx := p.ridx + 1#8, wire := p.wire ++ [.dataIn r, .masterAck], rbuf := Memory.write .rbuf p.rbuf p.ridx.toNat r }
    have requested : (rs.isEmpty && decide (0 < taken.ridx.toNat)) = !!rs.isEmpty := by simp [taken, count]
    have next := reaches_next s p dr sh r (r' :: rs ++ bytes) (by omega) follows requested
    obtain ⟨d, rest⟩ := ih r' taken r (by simp only [taken, count]; omega)
    refine ⟨d, ?_⟩
    simpa [taken, count, receiveSymbols, Memory.writeFrom] using next.trans rest

/-- The whole read phase, on a free bus or after a write phase: start, address, the `RLEN` bytes into `RBUF`, and the stop. -/
theorem reaches_done_of_rStart (s : State) (p : Progress) (dr sh : Byte) (ackl acken claimed : Bool) (acks : List Bool)
    (r : Byte) (rs bytes : List Byte) (hlen : rs.length + 1 = s.bte.rlen.toNat) :
    ∃ d, Reaches
      (s.atPoint { p with
        seq := Seq.rStart, ridx := 0#8,
        biu := { Biu.resting dr sh ackl acken with
          mode := if claimed then .tx else .idle, claim := claimed, txe := claimed, btf := claimed },
        acks := true :: acks, bytes := r :: rs ++ bytes })
      (s.atPoint { p with
        seq := Seq.done, ridx := s.bte.rlen, biu := .resting d sh false false,
        wire := p.wire ++ (if claimed then .restart else .start) :: readSymbols s.bte.devaddr (r :: rs) ++ [.stop],
        rbuf := Memory.writeFrom p.rbuf 0 (r :: rs), acks := acks, bytes := bytes }) := by
  let a := addressByte s.bte.devaddr rwRead
  let asking : Progress := { p with ridx := 0#8, bytes := r :: rs ++ bytes }
  let called : Progress :=
    { p with ridx := 0#8, wire := p.wire ++ [if claimed then .restart else .start, .address a, .deviceAck], acks := acks }
  have opened := reaches_rStage s asking dr sh ackl acken claimed acks
  have armed : preArmedAck s.bte.rlen = !rs.isEmpty := by
    rw [preArmedAck_of_pos (by omega)]
    cases rs <;> simp at hlen ⊢ <;> omega
  rw [armed] at opened
  obtain ⟨d, rest⟩ := reaches_done_of_receiving s sh bytes rs r called a (by simp [called]; omega)
  have first : (rs.isEmpty && decide (0 < called.ridx.toNat)) = false := Bool.and_false _
  rw [first] at rest
  exact ⟨d, by simpa [asking, called, a, readSymbols] using opened.trans rest⟩

/-! ### The whole transaction -/

/-- The point a state is at. -/
def State.progress (s : State) : Progress :=
  { seq := s.bte.seq, widx := s.bte.widx, ridx := s.bte.ridx, biu := s.biu, wire := s.wire, rbuf := s.rbuf,
    acks := s.env.acks, bytes := s.env.bytes }

theorem State.atPoint_progress {s : State} (hq : s.env.agenda = []) : s.atPoint s.progress = s := by
  change { s with env := { s.env with agenda := [] } } = s
  rw [← hq]

section
variable (s : State) (p : Progress) (dr sh : Byte) (ackl acken : Bool) (acks : List Bool) (bytes : List Byte)

/-- A transaction that only writes: the stop follows the last byte (40_bus_transaction_engine.md R158, R159). -/
theorem reaches_done_writeOnly (hm : 0 < s.bte.wlen.toNat) (hn : s.bte.rlen = 0#8) :
    ∃ w, Reaches
      (s.atPoint { p with
        seq := Seq.wStart, widx := 0#8, biu := .resting dr sh ackl acken,
        acks := List.replicate (s.bte.wlen.toNat + 1) true ++ acks })
      (s.atPoint { p with
        seq := Seq.done, widx := s.bte.wlen, biu := .resting w w ackl acken,
        wire := p.wire ++ .start :: writeSymbols s.bte.devaddr (s.writeBytes s.bte.wlen.toNat) ++ [.stop], acks := acks }) := by
  obtain ⟨w, written⟩ := reaches_wWaitBtf s p dr sh ackl acken acks hm
  have stop : afterWriteDrained s.bte.rlen = Seq.wStop := if_pos hn
  let sent : Progress :=
    { p with
      widx := s.bte.wlen, acks := acks,
      wire := p.wire ++ .start :: writeSymbols s.bte.devaddr (s.writeBytes s.bte.wlen.toNat) }
  have drained : Reaches _ (s.atPoint { sent with seq := afterWriteDrained s.bte.rlen, biu := .drainedOf w ackl acken }) :=
    written.trans (reaches_micro .wWaitBtf rfl rfl rfl)
  rw [stop] at drained
  exact ⟨w, drained.trans (reaches_micro .wStop rfl rfl rfl)⟩

/-- A transaction that writes and reads: the repeated start follows the last byte written (40_bus_transaction_engine.md R158). -/
theorem reaches_done_writeRead (hm : 0 < s.bte.wlen.toNat) (r : Byte) (rs : List Byte)
    (hlen : rs.length + 1 = s.bte.rlen.toNat) :
    ∃ d w, Reaches
      (s.atPoint { p with
        seq := Seq.wStart, widx := 0#8, ridx := 0#8, biu := .resting dr sh ackl acken,
        acks := List.replicate (s.bte.wlen.toNat + 1) true ++ true :: acks, bytes := r :: rs ++ bytes })
      (s.atPoint { p with
        seq := Seq.done, widx := s.bte.wlen, ridx := s.bte.rlen, biu := .resting d w false false,
        wire := p.wire ++ .start :: writeSymbols s.bte.devaddr (s.writeBytes s.bte.wlen.toNat) ++
          .restart :: readSymbols s.bte.devaddr (r :: rs) ++ [.stop],
        rbuf := Memory.writeFrom p.rbuf 0 (r :: rs), acks := acks, bytes := bytes }) := by
  let asking : Progress := { p with ridx := 0#8, bytes := r :: rs ++ bytes }
  obtain ⟨w, written⟩ := reaches_wWaitBtf s asking dr sh ackl acken (true :: acks) hm
  have some_read : s.bte.rlen ≠ 0#8 := (toNat_pos_iff _).1 (by omega)
  have restart : afterWriteDrained s.bte.rlen = Seq.rStart := if_neg some_read
  let sent : Progress :=
    { asking with
      widx := s.bte.wlen, acks := true :: acks,
      wire := p.wire ++ .start :: writeSymbols s.bte.devaddr (s.writeBytes s.bte.wlen.toNat) }
  have drained : Reaches _ (s.atPoint { sent with seq := afterWriteDrained s.bte.rlen, biu := .drainedOf w ackl acken }) :=
    written.trans (reaches_micro .wWaitBtf rfl rfl rfl)
  rw [restart] at drained
  obtain ⟨d, read⟩ := reaches_done_of_rStart s sent w w ackl acken true acks r rs bytes hlen
  exact ⟨d, w, drained.trans read⟩

theorem State.writeBytes_ne_nil {m : Nat} (hm : 0 < m) : s.writeBytes m ≠ [] := by
  simp [State.writeBytes, hm.ne']

theorem transactionSymbols_write (a : BitVec 7) {ws : List Byte} (h : ws ≠ []) :
    transactionSymbols a ws [] = .start :: writeSymbols a ws ++ [.stop] := by
  cases ws with
  | nil => exact absurd rfl h
  | cons w ws => rfl

theorem transactionSymbols_writeRead (a : BitVec 7) {ws : List Byte} (h : ws ≠ []) (r : Byte) (rs : List Byte) :
    transactionSymbols a ws (r :: rs) = .start :: writeSymbols a ws ++ .restart :: readSymbols a (r :: rs) ++ [.stop] := by
  cases ws with
  | nil => exact absurd rfl h
  | cons w ws => rfl

/-- From the first micro-operation of a transaction to `DONE`, with a device that acknowledges everything. -/
theorem reaches_done_of_firstMicro (reads : List Byte) (hreads : reads.length = s.bte.rlen.toNat)
    (hsome : ¬ (s.bte.wlen = 0#8 ∧ s.bte.rlen = 0#8)) :
    ∃ dr' sh' ackl', Reaches
      (s.atPoint { p with
        seq := firstMicro s.bte.wlen s.bte.rlen, widx := 0#8, ridx := 0#8, biu := .resting dr sh ackl acken,
        acks := List.replicate (acksAsked s.bte.wlen.toNat s.bte.rlen.toNat) true ++ acks, bytes := reads ++ bytes })
      (s.atPoint { p with
        seq := Seq.done, widx := s.bte.wlen, ridx := s.bte.rlen,
        biu := .resting dr' sh' ackl' (if s.bte.rlen = 0#8 then acken else false),
        wire := p.wire ++ transactionSymbols s.bte.devaddr (s.writeBytes s.bte.wlen.toNat) reads,
        rbuf := Memory.writeFrom p.rbuf 0 reads, acks := acks, bytes := bytes }) := by
  cases reads with
  | nil =>
    have hn : s.bte.rlen = 0#8 := BitVec.eq_of_toNat_eq hreads.symm
    have hm : 0 < s.bte.wlen.toNat := (toNat_pos_iff _).2 fun hm => hsome ⟨hm, hn⟩
    obtain ⟨w, path⟩ := reaches_done_writeOnly s { p with ridx := 0#8, bytes := bytes } dr sh ackl acken acks hm hn
    have begins : firstMicro s.bte.wlen s.bte.rlen = Seq.wStart := if_pos hm
    have asked : acksAsked s.bte.wlen.toNat s.bte.rlen.toNat = s.bte.wlen.toNat + 1 := by simp [acksAsked, hm.ne', hn]
    rw [begins, asked, if_pos hn, transactionSymbols_write _ (s.writeBytes_ne_nil hm), hn]
    exact ⟨w, w, ackl, by simpa [Memory.writeFrom] using path⟩
  | cons r rs =>
    have hn : s.bte.rlen ≠ 0#8 := (toNat_pos_iff _).1 (by rw [← hreads]; exact Nat.succ_pos _)
    obtain hm | hm := Nat.eq_zero_or_pos s.bte.wlen.toNat
    · have none_written : s.bte.wlen = 0#8 := BitVec.eq_of_toNat_eq hm
      have begins : firstMicro s.bte.wlen s.bte.rlen = Seq.rStart :=
        (if_neg (by omega)).trans (if_pos ((toNat_pos_iff _).2 hn))
      have asked : acksAsked s.bte.wlen.toNat s.bte.rlen.toNat = 1 := by simp [acksAsked, hm, ← hreads]
      obtain ⟨d, path⟩ :=
        reaches_done_of_rStart s { p with widx := 0#8 } dr sh ackl acken false acks r rs bytes hreads
      rw [begins, asked, if_neg hn, none_written]
      exact ⟨d, sh, false, by simpa [Biu.resting, State.writeBytes, transactionSymbols] using path⟩
    · have begins : firstMicro s.bte.wlen s.bte.rlen = Seq.wStart := if_pos hm
      have asked : List.replicate (acksAsked s.bte.wlen.toNat s.bte.rlen.toNat) true ++ acks =
          List.replicate (s.bte.wlen.toNat + 1) true ++ true :: acks := by
        simp [acksAsked, hm.ne', ← hreads, List.replicate_succ']
      obtain ⟨d, w, path⟩ := reaches_done_writeRead s p dr sh ackl acken acks bytes hm r rs hreads
      rw [begins, asked, if_neg hn, transactionSymbols_writeRead _ (s.writeBytes_ne_nil hm)]
      exact ⟨d, w, false, by simpa using path⟩

end

/-- Settles O30: the chain of steps from the accepted command to `DONE`, and the step of `DONE`. -/
theorem wholeTransaction : Obligations.WholeTransaction := by
  intro s addr m n reads laterBytes laterAcks hidle hquiet hq hsome hacks hbytes hreads
  let b := s.beginTransaction addr m n
  obtain ⟨dr, sh, ackl, path⟩ := reaches_done_of_firstMicro b b.progress s.biu.dr s.biu.sh s.biu.ackl s.biu.acken laterAcks
    laterBytes reads hreads hsome
  have begun : b.atPoint b.progress = b := State.atPoint_progress hq
  have start : b.progress =
      { b.progress with
        seq := firstMicro b.bte.wlen b.bte.rlen, widx := 0#8, ridx := 0#8,
        biu := .resting s.biu.dr s.biu.sh s.biu.ackl s.biu.acken,
        acks := List.replicate (acksAsked b.bte.wlen.toNat b.bte.rlen.toNat) true ++ laterAcks,
        bytes := reads ++ laterBytes } := by
    rw [← Biu.eq_resting hquiet, ← hbytes]
    change _ = { b.progress with acks := List.replicate (acksAsked m.toNat n.toNat) true ++ laterAcks }
    rw [← hacks]
    rfl
  rw [← start, begun] at path
  obtain ⟨k, hk⟩ := path.trans (.of_step (step_quiet_micro (i := .done) rfl rfl rfl))
  refine ⟨b, _, k, exec_bteTransact_idle hidle addr m n, hk, rfl, fun i hi => ?_, fun i hi => ?_, rfl, rfl, ?_, rfl, rfl, rfl, rfl,
    rfl, rfl, ?_⟩
  · have inside := Memory.read_writeFrom_inside s.rbuf 0 i reads (by omega)
    rwa [Nat.zero_add] at inside
  · exact Memory.read_writeFrom_above s.rbuf 0 i reads (by omega)
  · rfl
  · change { s.env with agenda := [], acks := laterAcks, bytes := laterBytes } = _
    rw [← hq]

end Sys2Proof.Machine
end

section
/-! # The bus interface unit's turn (41_bus_interface_unit.md R189 to R196)

Which move is enabled, one equation for each move in the form the statements use, what a question to the device leaves of its listed
answers, and the turn that takes a move or none. -/

namespace Sys2Proof.Machine

/-! ### The enabled move (R195, R196) -/

/-- A move is enabled exactly when it is the one the unit would take: `MODE`, `DRF` and `SHF` exclude the moves looked for before
it. -/
theorem Biu.nextMove_eq_some_iff (b : Biu) (m : Move) : b.nextMove = some m ↔ b.enabled m = true := by
  constructor
  · intro h
    unfold Biu.nextMove at h
    split_ifs at h <;> cases h <;> assumption
  · intro h
    cases m <;>
      simp_all [Biu.enabled, Biu.nextMove, Biu.startEnabled, Biu.drained, Biu.addrEnabled, Biu.txloadEnabled, Biu.txbyteEnabled,
        Biu.rxbyteEnabled]

theorem Biu.enabled_unique {b : Biu} {m k : Move} (hm : b.enabled m = true) (hk : b.enabled k = true) : m = k :=
  Option.some.inj (((b.nextMove_eq_some_iff m).2 hm).symm.trans ((b.nextMove_eq_some_iff k).2 hk))

theorem Biu.nextMove_eq_none_iff (b : Biu) : b.nextMove = none ↔ ∀ m, b.enabled m = false := by
  simp only [Option.eq_none_iff_forall_ne_some, ne_eq, Biu.nextMove_eq_some_iff, Bool.not_eq_true]

theorem Biu.startEnabled_iff (b : Biu) :
    b.startEnabled = true ↔
      b.startreq = true ∧ b.stopreq = false ∧
        (b.mode = .idle ∨ (b.mode = .tx ∧ b.shf = false ∧ b.drf = false) ∨ b.mode = .rxHalt) := by
  simp [Biu.startEnabled, Biu.drained, and_assoc, or_assoc]

/-- In FAIL the unit makes no move (R194). -/
theorem Biu.not_enabled_of_fail {b : Biu} (h : b.mode = .fail) (m : Move) : b.enabled m = false := by
  cases m <;>
    simp [Biu.enabled, Biu.startEnabled, Biu.drained, Biu.addrEnabled, Biu.txloadEnabled, Biu.txbyteEnabled, Biu.rxbyteEnabled, h]

/-! ### Questions to the device (R181, notes/assumptions/2.md) -/

/-- What an acknowledge question leaves: a listed answer is used up, or a free value. -/
def Env.ackAsked (e : Env) : Env :=
  match e.acks with
  | _ :: rest => { e with acks := rest }
  | [] => { e with freeIx := e.freeIx + 1 }

/-- What the question for a byte leaves. -/
def Env.byteAsked (e : Env) : Env :=
  match e.bytes with
  | _ :: rest => { e with bytes := rest }
  | [] => { e with freeIx := e.freeIx + 1 }

theorem State.ackAsked_eq (s : State) : s.ackAsked = { s with env := s.env.ackAsked } := by
  cases h : s.env.acks <;> simp [State.ackAsked, Env.ackAsked, State.useFree, h]

theorem State.byteAsked_eq (s : State) : s.byteAsked = { s with env := s.env.byteAsked } := by
  cases h : s.env.bytes <;> simp [State.byteAsked, Env.byteAsked, State.useFree, h]

theorem State.ackAnswer_cases (s : State) (free : Bool) :
    s.env.acks = s.ackAnswer free :: s.env.ackAsked.acks ∧ s.env.ackAsked = { s.env with acks := s.env.ackAsked.acks } ∨
    s.env.acks = [] ∧ s.env.ackAsked = { s.env with freeIx := s.env.freeIx + 1 } := by
  cases h : s.env.acks <;> simp [State.ackAnswer, Env.ackAsked, h]

theorem State.devReadByte_cases (s : State) :
    s.env.bytes = s.devReadByte :: s.env.byteAsked.bytes ∧ s.env.byteAsked = { s.env with bytes := s.env.byteAsked.bytes } ∨
    s.env.bytes = [] ∧ s.env.byteAsked = { s.env with freeIx := s.env.freeIx + 1 } := by
  cases h : s.env.bytes <;> simp [State.devReadByte, Env.byteAsked, h]

/-! ### What each move that asks the device does (R190, R192, R193) -/

theorem State.emit_emit (s : State) (x y : Symbol) : (s.emit x).emit y = { s with wire := s.wire ++ [x, y] } := by
  simp [State.emit]

theorem State.mAddr_eq (s : State) :
    s.mAddr = { s with
      biu := if s.devAddrAck s.biu.dr then { s.biu with drf := false, addr := true,
                                                        mode := if s.biu.dr.getLsbD 0 then .addrRx else .addrTx }
             else { s.biu with drf := false, mode := .fail },
      wire := s.wire ++ [.address s.biu.dr, if s.devAddrAck s.biu.dr then .deviceAck else .deviceNack],
      env := s.env.ackAsked } := by
  have mode : (if isWriteAddress s.biu.dr then Mode.addrTx else .addrRx) = if s.biu.dr.getLsbD 0 then .addrRx else .addrTx := by
    unfold isWriteAddress
    cases s.biu.dr.getLsbD 0 <;> rfl
  unfold State.mAddr
  rw [mode, State.emit_emit, State.emit_emit, State.ackAsked_eq, State.ackAsked_eq]
  cases s.devAddrAck s.biu.dr <;> rfl

theorem State.mTxbyte_eq (s : State) :
    s.mTxbyte = { s with
      biu := if s.devDataAck s.biu.sh then { s.biu with shf := false, btf := if s.biu.drf then s.biu.btf else true }
             else { s.biu with shf := false, mode := .fail },
      wire := s.wire ++ [.dataOut s.biu.sh, if s.devDataAck s.biu.sh then .deviceAck else .deviceNack],
      env := s.env.ackAsked } := by
  unfold State.mTxbyte
  rw [State.emit_emit, State.emit_emit, State.ackAsked_eq, State.ackAsked_eq]
  cases s.devDataAck s.biu.sh <;> rfl

/-- The byte is acknowledged as latched: more is to come. -/
theorem State.mRxbyte_acked {s : State} (h : s.biu.ackl = true) :
    s.mRxbyte = { s with
      biu := { s.biu with dr := s.devReadByte, drf := true, rxne := true, ackl := s.biu.acken },
      wire := s.wire ++ [.dataIn s.devReadByte, .masterAck],
      env := s.env.byteAsked } := by
  unfold State.mRxbyte
  rw [if_pos h, State.emit_emit, State.byteAsked_eq]
  rfl

/-- The receiver after a byte it did not acknowledge, before a pending stop. -/
def State.halted (s : State) : State :=
  { s with
    biu := { s.biu with dr := s.devReadByte, drf := true, rxne := true, mode := .rxHalt },
    wire := s.wire ++ [.dataIn s.devReadByte, .masterNack],
    env := s.env.byteAsked }

theorem State.mRxbyte_halted {s : State} (h : s.biu.ackl = false) : s.mRxbyte = s.halted.eagerStop := by
  unfold State.mRxbyte
  rw [if_neg (by simp [h]), State.emit_emit, State.byteAsked_eq]
  rfl

theorem State.eagerStop_of_no_request {s : State} (h : s.biu.stopreq = false) : s.eagerStop = s :=
  if_neg fun he => by simp [((Biu.stopEnabled_iff _).1 he).1] at h

theorem State.halted_eagerStop {s : State} (h : s.biu.stopreq = true) :
    s.halted.eagerStop = { s with
      biu := { s.biu with dr := s.devReadByte, drf := true, rxne := true, mode := .idle, claim := false, stopreq := false,
                          txe := false, btf := false },
      wire := s.wire ++ [.dataIn s.devReadByte, .masterNack, .stop],
      env := s.env.byteAsked } := by
  have enabled : s.halted.biu.stopEnabled = true := (Biu.stopEnabled_iff _).2 ⟨h, .inr rfl⟩
  have wire : s.halted.mStop.wire = s.wire ++ [.dataIn s.devReadByte, .masterNack, .stop] :=
    List.append_assoc s.wire [.dataIn s.devReadByte, .masterNack] [.stop]
  rw [State.eagerStop, if_pos enabled, ← wire]
  rfl

/-! ### The turn (R195) -/

section
variable {s : State} {rest : List Turn}

/-- The unit may move under the free schedule, and while the sequencer has no enabled step. -/
theorem State.biuMayMove_iff (s : State) :
    s.biuMayMove = true ↔ s.par.sched = .free ∨ seqReady s.bte.seq s.biu = false := by
  unfold State.biuMayMove
  cases s.par.sched <;> simp

theorem State.biuTurn_of_enabled {m : Move} (hmay : s.biuMayMove = true) (hm : s.biu.enabled m = true) :
    s.biuTurn = s.takeMove m := by
  simp [State.biuTurn, State.biuChoice, hmay, (s.biu.nextMove_eq_some_iff m).2 hm]

theorem State.biuTurn_of_nextMove_none (h : s.biu.nextMove = none) : s.biuTurn = s := by
  simp [State.biuTurn, State.biuChoice, h]

theorem State.biuTurn_of_not_may (h : s.biuMayMove = false) : s.biuTurn = s := by
  simp [State.biuTurn, State.biuChoice, h]

/-- The state with these turns still to come. -/
def State.withAgenda (s : State) (rest : List Turn) : State := { s with env := { s.env with agenda := rest } }

theorem State.dropTurn_eq_withAgenda {t : Turn} (hturn : s.env.agenda = t :: rest) : s.dropTurn = s.withAgenda rest :=
  State.dropTurn_of_agenda hturn

theorem step_biuTurn (hturn : s.env.agenda = .biu :: rest) : step s = .next (s.withAgenda rest).biuTurn := by
  rw [step_of_turn s .biu rest hturn, State.dropTurn_eq_withAgenda hturn]
  rfl

/-- A turn of the unit that may move takes the enabled move. -/
theorem step_move (m : Move) (hturn : s.env.agenda = .biu :: rest) (hmay : s.par.sched = .free ∨ seqReady s.bte.seq s.biu = false)
    (hm : s.biu.enabled m = true) :
    step s = .next ((s.withAgenda rest).takeMove m) := by
  have may : (s.withAgenda rest).biuMayMove = true := (State.biuMayMove_iff _).2 hmay
  rw [step_biuTurn hturn, State.biuTurn_of_enabled may hm]

end

/-! ### The obligations -/

/-- Settles O28: the order in which the unit looks for its move does not matter, since no two are enabled. -/
theorem biuMovesOnlyWhenItMay : Obligations.BiuMovesOnlyWhenItMay := by
  refine ⟨fun b m k => Biu.enabled_unique, fun s rest hturn hstill => ?_⟩
  rw [step_biuTurn hturn]
  refine congrArg _ ?_
  obtain ⟨hsched, hready⟩ | hnone := hstill
  · have mayNot : s.biuMayMove = false := by simp [State.biuMayMove, hsched, hready]
    exact State.biuTurn_of_not_may (s := s.withAgenda rest) mayNot
  · exact State.biuTurn_of_nextMove_none ((Biu.nextMove_eq_none_iff _).2 hnone)

/-- Settles O24. -/
theorem startConditionSent : Obligations.StartConditionSent := fun s _ hturn hmay hstart hstop hmode =>
  step_move .start hturn hmay (s.biu.startEnabled_iff.2 ⟨hstart, hstop, hmode⟩)

/-- Settles O25: the answer is the one the question takes. -/
theorem addressByteSent : Obligations.AddressByteSent := by
  intro s rest hturn hmay hmode hdrf
  have enabled : s.biu.enabled .addr = true := by simp [Biu.enabled, Biu.addrEnabled, hmode, hdrf]
  exact ⟨(s.withAgenda rest).devAddrAck s.biu.dr, _, (s.withAgenda rest).ackAnswer_cases _,
    (step_move .addr hturn hmay enabled).trans (congrArg _ (s.withAgenda rest).mAddr_eq)⟩

/-- Settles O26: with `SHF` = 0 the byte is loaded, with `SHF` = 1 it is sent, and no more than one of the two is enabled. -/
theorem writeByteSent : Obligations.WriteByteSent := by
  intro s rest hturn hmay hmode
  refine ⟨fun hdrf hshf => ?_, fun hshf => ?_⟩
  · have enabled : s.biu.enabled .txload = true := by simp [Biu.enabled, Biu.txloadEnabled, hmode, hdrf, hshf]
    exact step_move .txload hturn hmay enabled
  · have enabled : s.biu.enabled .txbyte = true := by simp [Biu.enabled, Biu.txbyteEnabled, hmode, hshf]
    exact ⟨(s.withAgenda rest).devDataAck s.biu.sh, _, (s.withAgenda rest).ackAnswer_cases _,
      (step_move .txbyte hturn hmay enabled).trans (congrArg _ (s.withAgenda rest).mTxbyte_eq)⟩

/-- Settles O27: a byte acknowledged as latched, or the receiver halted with no stop pending, or with one. -/
theorem readByteTaken : Obligations.ReadByteTaken := by
  intro s rest hturn hmay hmode hdrf
  have enabled : s.biu.enabled .rxbyte = true := by simp [Biu.enabled, Biu.rxbyteEnabled, hmode, hdrf]
  have moved : step s = .next (s.withAgenda rest).mRxbyte := step_move .rxbyte hturn hmay enabled
  refine ⟨_, _, (s.withAgenda rest).devReadByte_cases, fun hackl => ?_, fun hackl hstop => ?_, fun hackl hstop => ?_⟩
  · exact moved.trans (congrArg _ (State.mRxbyte_acked (s := s.withAgenda rest) hackl))
  · rw [moved, State.mRxbyte_halted (s := s.withAgenda rest) hackl,
      State.eagerStop_of_no_request (s := (s.withAgenda rest).halted) hstop]
    rfl
  · rw [moved, State.mRxbyte_halted (s := s.withAgenda rest) hackl, State.halted_eagerStop (s := s.withAgenda rest) hstop]
    rfl

end Sys2Proof.Machine
end

section
/-! # Bytes the spec leaves open (93_implementation_defined.md U3, U4)

Three operations meet one: `a_dr_write` over a byte not yet taken, `a_dr_read` of no byte, a read of a buffer entry never written. Each
has the effect of its rule, with a free value where the byte is. -/

namespace Sys2Proof.Machine

section
variable {s : State}

/-- `a_dr_write` over a byte not yet taken (41_bus_interface_unit.md R185, notes/assumptions/4.md). -/
theorem State.aDrWrite_over (v : Byte) (h : s.biu.drf = true) :
    s.aDrWrite v = { s with
      biu := { s.biu.flagsDrWrite with dr := Config.drOverwrite s.env.freeIx s.biu.dr v, drf := true },
      env := { s.env with freeIx := s.env.freeIx + 1 } } :=
  if_pos h

/-- `a_dr_write` in every case: only the byte and the use of a free value depend on `DRF`. -/
theorem State.aDrWrite_open (s : State) (v : Byte) :
    ∃ (w : Byte) (k : Nat),
      s.aDrWrite v = { s with
        biu := { s.biu.flagsDrWrite with dr := w, drf := true }, env := { s.env with freeIx := k } } ∧
      (s.biu.drf = false → k = s.env.freeIx) := by
  cases h : s.biu.drf
  · exact ⟨v, _, s.aDrWrite_free v h, fun _ => rfl⟩
  · exact ⟨_, _, State.aDrWrite_over v h, nofun⟩

/-- `a_dr_read` of no byte (41_bus_interface_unit.md R186, notes/assumptions/4.md): `RXNE` is 0 already. -/
theorem State.aDrRead_empty (h : s.biu.rxne = false) :
    s.aDrRead = { s with
      biu := { s.biu with drf := false, btf := false }, env := { s.env with freeIx := s.env.freeIx + 1 } } := by
  have cleared : { s.biu.flagsDrRead with drf := false } = { s.biu with drf := false, btf := false } := by
    rw [Biu.flagsDrRead, ← h]
  rw [State.aDrRead, cleared, if_neg (by simp [h])]
  rfl

end

/-- Settles O21: each clause is the rule's effect with the free value of the operation that meets the open byte. -/
theorem unspecifiedBytesStopNothing : Obligations.UnspecifiedBytesStopNothing := by
  refine ⟨fun s hfull => ⟨_, next_setSeq (State.aDrWrite_over _ hfull) _⟩,
    fun s hfull => ⟨_, next_setSeq (State.aDrWrite_over _ hfull) _⟩, fun s => ?_, fun s hempty => ?_,
    fun s idx hidle => ⟨_, exec_bteRget_idle hidle idx⟩⟩
  · obtain ⟨v, k, written, hk⟩ := s.aDrWrite_open (s.loadByte .wbuf s.bte.widx.toNat)
    exact ⟨v, k, next_setSeq (congrArg State.countWritten written) _, hk⟩
  · have read := State.aDrRead_empty hempty
    refine ⟨_, rfl, ?_, ⟨s.drReadValue, Memory.read_write_same_of_unlisted .rbuf _ _ _ rfl⟩, fun j hj => ?_⟩
    · rw [read]
      rfl
    · rw [read]
      exact Memory.read_write_other .rbuf s.rbuf _ j _ hj.symm

end Sys2Proof.Machine
end

section
/-! # A hang is for ever (41_bus_interface_unit.md R194, 60_exceptions.md R283, R284)

In a hang no turn but reset's is the engine's or the bus's any more: the sequencer waits for a flag that stays 0, the unit has no move,
and the port holds every BTE command. What is left to the turns touches neither bus nor givers' waits. -/

namespace Sys2Proof.Machine

/-! ### What the turns have left to do -/

/-- Neither engine, BIU nor wire moved, and every giver awaits what it awaited. -/
structure BusAtRest (s t : State) : Prop extends EngineKept s t where
  wire : t.wire = s.wire
  awaiting : ∀ g, (t.context g).awaiting = (s.context g).awaiting

theorem BusAtRest.refl (s : State) : BusAtRest s s := ⟨.refl s, rfl, fun _ => rfl⟩

theorem BusAtRest.trans {s t u : State} (h : BusAtRest s t) (h' : BusAtRest t u) : BusAtRest s u :=
  ⟨⟨h'.bte.trans h.bte, h'.biu.trans h.biu⟩, h'.wire.trans h.wire, fun g => (h'.awaiting g).trans (h.awaiting g)⟩

/-- An update that leaves the givers alone leaves their waits alone. -/
theorem BusAtRest.of_ctx {s t : State} (h : EngineKept s t) (wire : t.wire = s.wire) (ctx : t.ctx = s.ctx) : BusAtRest s t :=
  ⟨h, wire, fun g => by rw [State.context, ctx, State.context]⟩

theorem BusAtRest.hangs {s t : State} (h : BusAtRest s t) (hs : s.hangs = true) : t.hangs = true := by
  rw [State.hangs, State.busy, h.bte, h.biu]
  exact hs

/-- The units' instructions await nothing. -/
theorem exec_unit_awaiting {i : Instr} {s t : State} (hk : i.kind = .unitCommand ∨ i.kind = .event) (h : exec i s = .next t)
    (g : Giver) : (t.context g).awaiting = (s.context g).awaiting := by
  cases i with
  | drsInit | evDispUpdate | evDispCompare => cases h; rfl
  | drsPut | stkInit => cases h; simp [State.context]
  | stkTrigger => cases h; split <;> simp [State.context]
  | evTick => obtain ⟨-, rfl⟩ := (execEvTick_next s t).1 h; simp [State.context]
  | evSensorEdge => cases h; cases g <;> rfl
  | _ => simp [Instr.kind] at hk

theorem exec_unit_busAtRest {i : Instr} {s t : State} (hk : i.kind = .unitCommand ∨ i.kind = .event) (h : exec i s = .next t) :
    BusAtRest s t :=
  ⟨(exec_unitsOnly hk h).engineKept, (exec_unitsOnly hk h).wire, exec_unit_awaiting hk h⟩

/-! ### The updates the turns are made of -/

section
variable (s : State)

theorem State.dropTurn_busAtRest : BusAtRest s s.dropTurn := .of_ctx ⟨rfl, rfl⟩ rfl rfl

theorem State.injectWord_busAtRest (w : Word) : BusAtRest s (s.injectWord w) :=
  .of_ctx (s.injectWord_engineKept w) (by unfold State.injectWord; split_ifs <;> simp)
    (by unfold State.injectWord; split_ifs <;> simp)

theorem State.afterService_busAtRest (src : Source) : BusAtRest s (s.afterService src) := by
  cases src <;> exact .of_ctx ⟨rfl, rfl⟩ rfl rfl

theorem State.returnFrom_busAtRest (g : Giver) : BusAtRest s (s.returnFrom g) := by
  cases g <;> exact .of_ctx ⟨rfl, rfl⟩ rfl rfl

theorem State.popOp_busAtRest (g : Giver) : BusAtRest s (s.popOp g) :=
  ⟨⟨rfl, rfl⟩, rfl, fun g' => by cases g <;> cases g' <;> rfl⟩

theorem State.pushOps_busAtRest (g : Giver) (ops : List HostOp) : BusAtRest s (s.pushOps g ops) :=
  ⟨⟨rfl, rfl⟩, rfl, fun g' => by cases g <;> cases g' <;> rfl⟩

theorem State.submitWord_busAtRest (w : Word) : BusAtRest s (s.submitWord w) :=
  ⟨⟨rfl, rfl⟩, rfl, fun g => by cases g <;> rfl⟩

theorem State.beginBoot_busAtRest : BusAtRest s s.beginBoot := ⟨⟨rfl, rfl⟩, rfl, fun g => by cases g <;> rfl⟩

end

/-! ### Every turn in a hang -/

section
variable {s t : State}

theorem State.hangs_iff (s : State) :
    s.hangs = true ↔ s.bte.seq ≠ Seq.idle ∧ seqReady s.bte.seq s.biu = false ∧ s.biu.nextMove = none := by
  simp [State.hangs, State.busy_iff, and_assoc]

theorem seqTurn_of_hangs (hs : s.hangs = true) : seqTurn exec s = .next s := by
  obtain ⟨-, hready, -⟩ := s.hangs_iff.1 hs
  obtain ⟨i, hd⟩ := decodeSeq_of_not_seqReady hready
  simp only [seqTurn, hd, exec_of_not_seqReady hd hready]

theorem dispatchTurn_busAtRest {tie : Source} {first : DispEvent} (h : dispatchTurn exec tie first s = .next t) :
    BusAtRest s t := by
  unfold dispatchTurn at h
  split at h
  · cases h; exact .refl s
  · next src _ =>
    obtain ⟨u, hrun, rfl⟩ := (thenState_next _ _ _).1 h
    have entered : BusAtRest s (s.enterHandler src) := .of_ctx ⟨rfl, rfl⟩ rfl rfl
    have handled := exec_unit_busAtRest (.inr (s.eventOf_kind first src)) hrun
    exact (entered.trans handled).trans (u.afterService_busAtRest src)

/-- The port holds a BTE command (40_bus_transaction_engine.md R145) and takes the units' commands. -/
theorem giveWord_of_hangs {g : Giver} {w : Word} (hs : s.hangs = true) (h : giveWord exec g w s = .next t) : BusAtRest s t := by
  obtain ⟨hbusy, -, -⟩ := s.hangs_iff.1 hs
  cases hd : decodeCommand w with
  | error why => rw [giveWord_reserved hd] at h; cases h; exact s.popOp_busAtRest g
  | ok i =>
    obtain hk | hk := decodeCommand_kind w i hd
    · rw [giveWord_held hd hk hbusy] at h; cases h; exact .refl s
    · rw [giveWord_accepted hd (by simp [hk])] at h
      exact (s.popOp_busAtRest g).trans (exec_unit_busAtRest (.inl hk) h)

theorem hostOp_of_hangs {g : Giver} {op : HostOp} (hs : s.hangs = true) (h : hostOp exec g s op = .next t) : BusAtRest s t := by
  have popped := s.popOp_busAtRest g
  cases op with
  | command w => exact giveWord_of_hangs hs h
  | edgeTest | freshTest => cases h; exact popped.trans ((s.popOp g).pushOps_busAtRest g _)
  | enableLine src => cases h; exact popped.trans (.of_ctx ⟨rfl, rfl⟩ rfl rfl)
  | handlerReturn => cases h; exact popped.trans ((s.popOp g).returnFrom_busAtRest g)

theorem hostTurn_of_hangs {g : Giver} (hs : s.hangs = true) (h : hostTurn exec g s = .next t) : BusAtRest s t := by
  unfold hostTurn at h
  split at h
  · cases h; exact .refl s
  · split at h
    · cases h; exact .refl s
    · exact hostOp_of_hangs hs h

theorem takeTurn_of_hangs {turn : Turn} (hs : s.hangs = true) (hr : turn ≠ .reset) (h : takeTurn exec turn s = .next t) :
    BusAtRest s t := by
  cases turn with
  | seq => cases (seqTurn_of_hangs hs).symm.trans h; exact .refl s
  | biu =>
    obtain ⟨-, -, hmove⟩ := s.hangs_iff.1 hs
    cases h
    rw [State.biuTurn_of_nextMove_none hmove]
    exact .refl s
  | dispatch tie first => exact dispatchTurn_busAtRest h
  | host g => exact hostTurn_of_hangs hs h
  | dispTimer | tickTimer => cases h; exact .of_ctx ⟨by simp, by simp⟩ (by simp) (by simp)
  | sensorEdge | enableLine => cases h; exact .of_ctx ⟨rfl, rfl⟩ rfl rfl
  | submit w => cases h; exact s.submitWord_busAtRest w
  | boot => cases h; exact s.beginBoot_busAtRest
  | inject w => cases h; exact s.injectWord_busAtRest w
  | reset => exact absurd rfl hr

end

/-! ### There is a next state, but for a tick that cannot be counted (43_stopwatch_tick.md R240) -/

/-- Of all instructions only one event can fail to answer a next state. -/
theorem exec_has_next {i : Instr} (s : State) (h : i.kind = .event → s.canCount = true) : ∃ t, exec i s = .next t := by
  cases i with
  | evTick => exact ⟨_, (execEvTick_next s _).2 ⟨h rfl, rfl⟩⟩
  | _ => exact ⟨_, rfl⟩

section
variable {s : State}

theorem dispatchTurn_has_next (tie : Source) (first : DispEvent) (hc : s.canCount = true) :
    ∃ t, dispatchTurn exec tie first s = .next t := by
  unfold dispatchTurn
  split
  · exact ⟨_, rfl⟩
  · next src _ =>
    obtain ⟨u, hu⟩ := exec_has_next (i := s.eventOf first src) (s.enterHandler src) (fun _ => hc)
    exact ⟨_, (thenState_next _ _ _).2 ⟨u, hu, rfl⟩⟩

theorem giveWord_has_next (g : Giver) (w : Word) : ∃ t, giveWord exec g w s = .next t := by
  unfold giveWord
  split
  · next i hd =>
    have noEvent : i.kind ≠ .event := by obtain hk | hk := decodeCommand_kind w i hd <;> simp [hk]
    split
    · exact exec_has_next _ (fun hk => absurd hk noEvent)
    · exact ⟨_, rfl⟩
  · exact ⟨_, rfl⟩

theorem hostTurn_has_next (g : Giver) : ∃ t, hostTurn exec g s = .next t := by
  unfold hostTurn
  split
  · exact ⟨_, rfl⟩
  · split
    · exact ⟨_, rfl⟩
    · next op _ _ =>
      cases op with
      | command w => exact giveWord_has_next g w
      | _ => exact ⟨_, rfl⟩

/-- From a legal `SEQ` every turn has a next state while the count can rise. -/
theorem takeTurn_has_next (turn : Turn) {i : Instr} (hd : decodeSeq s.bte.seq = .ok i) (hc : s.canCount = true) :
    ∃ t, takeTurn exec turn s = .next t := by
  cases turn with
  | seq =>
    have noEvent : i.kind ≠ .event := by simp [decodeSeq_kind _ i hd]
    obtain ⟨t, ht⟩ := exec_has_next s (fun hk => absurd hk noEvent)
    exact ⟨t, by simpa only [takeTurn, seqTurn, hd] using ht⟩
  | dispatch tie first => exact dispatchTurn_has_next tie first hc
  | host g => exact hostTurn_has_next g
  | _ => exact ⟨_, rfl⟩

end

/-- Settles O29: a hang leaves the turns only what keeps bus and waits, and a hang is a matter of engine and BIU alone. -/
theorem hangIsForEver : Obligations.HangIsForEver := by
  refine ⟨fun b m hfail => Biu.not_enabled_of_fail hfail m, fun s hs hr => ⟨fun hc => ?_, fun t h => ?_⟩⟩
  · obtain ⟨-, hready, -⟩ := s.hangs_iff.1 hs
    obtain ⟨i, hd⟩ := decodeSeq_of_not_seqReady hready
    exact takeTurn_has_next (s := s.dropTurn) s.turnNow hd hc
  · have rest : BusAtRest s t :=
      s.dropTurn_busAtRest.trans (takeTurn_of_hangs (s := s.dropTurn) (s.dropTurn_busAtRest.hangs hs) hr h)
    exact ⟨rest.bte, rest.biu, rest.wire, rest.hangs hs, fun g hg => (rest.awaiting g).trans hg⟩

end Sys2Proof.Machine
end

section
/-! # The flag invariants (41_bus_interface_unit.md R198)

They hold in each situation a transaction takes the BIU through, and a state in step is in one of these. -/

namespace Sys2Proof.Machine

/-! ### In each situation -/

section
variable {b : Biu}

theorem Biu.quiet_flagsOk (h : b.quiet = true) : b.flagsOk = true := by
  simp_all [Biu.quiet, Biu.noFlags, Biu.flagsOk]

theorem Biu.startAsked_flagsOk (h : b.startAsked = true) : b.flagsOk = true := by
  simp_all [Biu.startAsked, Biu.noFlags, Biu.flagsOk]

theorem Biu.startSeen_flagsOk (h : b.startSeen = true) : b.flagsOk = true := by
  simp_all [Biu.startSeen, Biu.flagsOk]

theorem Biu.addressHeld_flagsOk {v : Byte} (h : b.addressHeld v = true) : b.flagsOk = true := by
  simp_all [Biu.addressHeld, Biu.noFlags, Biu.flagsOk]

theorem Biu.addressSeen_flagsOk {m : Mode} (hm : m = .addrTx ∨ m = .addrRx) (h : b.addressSeen m = true) : b.flagsOk = true := by
  obtain rfl | rfl := hm <;> simp_all [Biu.addressSeen, Biu.flagsOk]

/-- `TXE` may be left over in FAIL. -/
theorem Biu.refused_flagsOk (h : b.refused = true) : b.flagsOk = true := by
  simp_all [Biu.refused, Biu.flagsOk]

theorem Biu.byteWaits_flagsOk (h : b.byteWaits = true) : b.flagsOk = true := by
  simp_all [Biu.byteWaits, Biu.transmits, Biu.flagsOk]

theorem Biu.byteShifts_flagsOk (h : b.byteShifts = true) : b.flagsOk = true := by
  simp_all [Biu.byteShifts, Biu.transmits, Biu.flagsOk]

theorem Biu.dataOpen_flagsOk (h : b.dataOpen = true) : b.flagsOk = true := by
  simp_all [Biu.dataOpen, Biu.transmits, Biu.flagsOk]

theorem Biu.allSent_flagsOk {r : Bool} (h : b.allSent r = true) : b.flagsOk = true := by
  simp_all [Biu.allSent, Biu.transmits, Biu.flagsOk]

theorem Biu.receiving_flagsOk {i n : Nat} (h : b.receiving i n = true) : b.flagsOk = true := by
  simp_all [Biu.receiving, Biu.noFlags, Biu.flagsOk]

/-- A byte not yet read: the next one is in flight, or the stop condition is on the bus. -/
theorem Biu.received_flagsOk {i n : Nat} (h : b.received i n = true) : b.flagsOk = true := by
  by_cases hmore : i + 1 < n <;> simp_all [Biu.received, Biu.flagsOk]

end

/-! ### At each value of `SEQ` -/

/-- Engine and BIU in step at a micro-operation: the BIU is in a situation of that point of the transaction. -/
theorem protocolAt_flagsOk {e : Bte} {b : Biu} {i : Instr} (h : protocolAt e b i = true) : b.flagsOk = true := by
  cases i <;> simp only [protocolAt, Bool.and_eq_true, Bool.or_eq_true, and_assoc, reduceCtorEq] at h
  case idle | done => exact Biu.quiet_flagsOk h
  case wStart => exact Biu.quiet_flagsOk h.1
  case wWaitSb => exact h.1.elim Biu.startAsked_flagsOk Biu.startSeen_flagsOk
  case wAddr | rAddr => exact Biu.startSeen_flagsOk h.1
  case wWaitAddr =>
    obtain ⟨(hheld | hseen) | hrefused, -⟩ := h
    · exact Biu.addressHeld_flagsOk hheld
    · exact Biu.addressSeen_flagsOk (.inl rfl) hseen
    · exact Biu.refused_flagsOk hrefused
  case rWaitAddr =>
    obtain ⟨(hheld | hseen) | hrefused, -⟩ := h
    · exact Biu.addressHeld_flagsOk hheld
    · exact Biu.addressSeen_flagsOk (.inr rfl) hseen
    · exact Biu.refused_flagsOk hrefused
  case wClrAddr => exact Biu.addressSeen_flagsOk (.inl rfl) h.1
  case rClrAddr => exact Biu.addressSeen_flagsOk (.inr rfl) h.1
  case wData =>
    obtain ⟨hshifts | ⟨hopen, -⟩, -⟩ := h
    · exact Biu.byteShifts_flagsOk hshifts
    · exact Biu.dataOpen_flagsOk hopen
  case wWaitTxe =>
    obtain ⟨(hwaits | hshifts) | ⟨hrefused, -⟩, -⟩ := h
    · exact Biu.byteWaits_flagsOk hwaits
    · exact Biu.byteShifts_flagsOk hshifts
    · exact Biu.refused_flagsOk hrefused
  case wWaitBtf =>
    obtain ⟨((hwaits | hshifts) | hsent) | hrefused, -⟩ := h
    · exact Biu.byteWaits_flagsOk hwaits
    · exact Biu.byteShifts_flagsOk hshifts
    · exact Biu.allSent_flagsOk hsent
    · exact Biu.refused_flagsOk hrefused
  case wStop => exact Biu.allSent_flagsOk h.1
  case rStart =>
    obtain ⟨hbus, -⟩ := h
    split at hbus
    · exact Biu.quiet_flagsOk hbus
    · exact Biu.allSent_flagsOk hbus
  case rWaitSb =>
    obtain ⟨hbus | hseen, -⟩ := h
    · split at hbus
      · exact Biu.startAsked_flagsOk hbus
      · exact Biu.allSent_flagsOk hbus
    · exact Biu.startSeen_flagsOk hseen
  case rAckpol => exact Biu.addressHeld_flagsOk h.1
  case rStage => exact Biu.receiving_flagsOk h.1
  case rWaitRxne =>
    obtain ⟨hreceived | ⟨hreceiving, -⟩, -⟩ := h
    · exact Biu.received_flagsOk hreceived
    · exact Biu.receiving_flagsOk hreceiving
  case rData => exact Biu.received_flagsOk h.1

theorem State.flagsOk_of_protocolOk {s : State} (h : s.protocolOk = true) : s.biu.flagsOk = true := by
  obtain ⟨i, -, hp⟩ := s.protocolOk_iff.1 h
  exact protocolAt_flagsOk hp

/-- Settles O58: the flag invariants follow from being in step, which every step keeps. -/
theorem flagInvariants : Obligations.FlagInvariants :=
  ⟨fun _ => State.flagsOk_of_protocolOk,
    fun s t hsched hs h => State.flagsOk_of_protocolOk (engineAndBusStayInStep s t hsched hs h)⟩

end Sys2Proof.Machine
end

section
/-! # The display refresh scheduler (42_display_refresh.md R211 to R218)

What a slot reads after the writes of the two commands, the output lines bit by bit, and the state the update handler leaves. Serving
update and compare events alternately is then an induction over the pairs: a pair leaves the outputs dark and the index one further. -/

namespace Sys2Proof.Machine

/-! ### Slots of the frame buffer (R211, R212) -/

/-- A slot write keeps the frame buffer canonical, and every slot reads as before but the one written. -/
theorem State.writeByte_slot {s : State} {i : Nat} (v : Byte) (hi : i < 4) (hs : Memory.wf .fb s.fb = true) :
    Memory.wf .fb (s.writeByte .fb i v).fb = true ∧
      ∀ k, (s.writeByte .fb i v).readByte .fb k = if k = i then some v else s.readByte .fb k := by
  refine ⟨State.mem_writeByte_wf s .fb .fb i v hi hs, fun k => ?_⟩
  split
  next h => subst h; exact State.readByte_writeByte_same s .fb k v hs
  next h => exact State.readByte_writeByte_other s .fb .fb i k v (.inr (Ne.symm h))

/-- `DRS_INIT` writes the four slots one after the other, each in the buffer the one before left. -/
theorem State.readByte_blankSlots {s : State} (hs : Memory.wf .fb s.fb = true) (k : Nat) :
    s.blankSlots.readByte .fb k = if k < 4 then some 0x00#8 else s.readByte .fb k := by
  obtain ⟨wf0, read0⟩ := State.writeByte_slot (i := 0) 0x00#8 (by decide) hs
  obtain ⟨wf1, read1⟩ := State.writeByte_slot (i := 1) 0x00#8 (by decide) wf0
  obtain ⟨wf2, read2⟩ := State.writeByte_slot (i := 2) 0x00#8 (by decide) wf1
  obtain ⟨-, read3⟩ := State.writeByte_slot (i := 3) 0x00#8 (by decide) wf2
  rw [State.blankSlots, read3, read2, read1, read0]
  by_cases hk : k < 4
  · rw [if_pos hk]
    interval_cases k <;> rfl
  · have past (i : Nat) (hi : i < 4) : k ≠ i := by omega
    rw [if_neg hk, if_neg (past 3 (by decide)), if_neg (past 2 (by decide)), if_neg (past 1 (by decide)),
      if_neg (past 0 (by decide))]

/-! ### The output lines (R214) -/

/-- Driving an anode low leaves every other as it was. -/
theorem driveAnode_getLsbD (an : BitVec 4) (k : BitVec 2) (j : Nat) :
    (driveAnode an k).getLsbD j = (an.getLsbD j && decide (j ≠ k.toNat)) := by
  by_cases hj : j < 4
  · have line : (1#4 <<< k.toNat).getLsbD j = decide (j = k.toNat) := by
      rw [← BitVec.twoPow_eq, BitVec.getLsbD_twoPow]
      have := k.isLt
      simp [eq_comm, this]
    rw [driveAnode, BitVec.getLsbD_and, BitVec.getLsbD_not, line]
    simp [hj]
  · simp [BitVec.getLsbD_of_ge _ j (Nat.le_of_not_lt hj)]

theorem driveCathodes_getLsbD (ca : BitVec 8) (b : Byte) (i : Nat) :
    (driveCathodes ca b).getLsbD i = (ca.getLsbD i && !b.getLsbD i) := by
  by_cases hi : i < 8
  · simp [driveCathodes, hi]
  · simp [BitVec.getLsbD_of_ge _ i (Nat.le_of_not_lt hi)]

theorem driveAnode_anodesHigh (k : BitVec 2) :
    driveAnode anodesHigh k = match k.toNat with | 0 => 0xE#4 | 1 => 0xD#4 | 2 => 0xB#4 | _ => 0x7#4 := by
  revert k
  decide

theorem driveCathodes_cathodesHigh (b : Byte) : driveCathodes cathodesHigh b = ~~~b :=
  BitVec.allOnes_and

theorem anodesHigh_getLsbD {k : Nat} (hk : k < 4) : anodesHigh.getLsbD k = true := by
  revert k
  decide

theorem cathodesHigh_getLsbD {i : Nat} (hi : i < 8) : cathodesHigh.getLsbD i = true := by
  revert i
  decide

/-! ### The handlers (R214, R215, R218) -/

/-- What the update handler leaves when the current slot holds `b`. -/
def State.digitDriven (s : State) (b : Byte) : State :=
  { s with drs := { s.drs with
      uif := false,
      an := driveAnode s.drs.an s.drs.digitIdx,
      ca := driveCathodes s.drs.ca b,
      digitIdx := s.drs.digitIdx + 1#2 } }

theorem exec_evDispUpdate {s : State} {b : Byte} (h : s.readByte .fb s.drs.digitIdx.toNat = some b) :
    exec .evDispUpdate s = .next (s.digitDriven b) := by
  rw [State.digitDriven, ← State.loadByte_of_readByte s .fb _ b h]
  rfl

/-- A segment is lit when both its lines were low before or are driven low now. -/
theorem State.digitDriven_lit (s : State) (b : Byte) (k i : Nat) :
    (s.digitDriven b).lit k i =
      ((!s.drs.an.getLsbD k || decide (k = s.drs.digitIdx.toNat)) && (!s.drs.ca.getLsbD i || b.getLsbD i)) := by
  simp [State.lit, State.digitDriven, driveAnode_getLsbD, driveCathodes_getLsbD]

/-- Settles O34. -/
theorem displayHandlersDriveLines : Obligations.DisplayHandlersDriveLines :=
  ⟨fun s b h => ⟨s.digitDriven b, exec_evDispUpdate h, rfl, driveAnode_getLsbD _ _, driveCathodes_getLsbD _ _⟩, fun _ => rfl⟩

/-- Settles O35: from dark outputs a line is low only where the handler drives it. -/
theorem updateLightsOneDigit : Obligations.UpdateLightsOneDigit := by
  intro s b han hca hb
  refine ⟨s.digitDriven b, exec_evDispUpdate hb, ?_, ?_, fun k i hk hi => ?_⟩
  · exact (congrArg (driveCathodes · b) hca).trans (driveCathodes_cathodesHigh b)
  · exact (congrArg (driveAnode · s.drs.digitIdx) han).trans (driveAnode_anodesHigh _)
  · have anode : s.drs.an.getLsbD k = true := han ▸ anodesHigh_getLsbD hk
    have cathode : s.drs.ca.getLsbD i = true := hca ▸ cathodesHigh_getLsbD hi
    simp [State.digitDriven_lit, anode, cathode]

/-! ### Update and compare events in turn (R217) -/

/-- What an update event and a compare event after it leave: dark outputs, whatever was lit before. -/
def State.digitPassed (s : State) : State :=
  { s with drs := { s.drs with
      uif := false, ccif := false, an := anodesHigh, ca := cathodesHigh, digitIdx := s.drs.digitIdx + 1#2 } }

theorem execAll_update_compare (is : List Instr) (s : State) :
    execAll (.evDispUpdate :: .evDispCompare :: is) s = execAll is s.digitPassed := rfl

theorem State.digitPassed_digitIdx (s : State) :
    s.digitPassed.drs.digitIdx.toNat = (s.drs.digitIdx.toNat + 1) % 4 :=
  BitVec.toNat_add _ _

theorem execAll_update_compare_pairs (n : Nat) (s : State) (han : s.drs.an = anodesHigh) (hca : s.drs.ca = cathodesHigh) :
    ∃ t, execAll (List.flatten (List.replicate n [.evDispUpdate, .evDispCompare])) s = .next t ∧
      t.drs.an = anodesHigh ∧ t.drs.ca = cathodesHigh ∧
      t.drs.digitIdx.toNat = (s.drs.digitIdx.toNat + n) % 4 ∧ t.fb = s.fb := by
  induction n generalizing s with
  | zero => exact ⟨s, rfl, han, hca, (Nat.mod_eq_of_lt s.drs.digitIdx.isLt).symm, rfl⟩
  | succ n ih =>
    obtain ⟨t, hrun, hant, hcat, hidx, hfb⟩ := ih s.digitPassed rfl rfl
    refine ⟨t, hrun, hant, hcat, ?_, hfb⟩
    rw [hidx, State.digitPassed_digitIdx]
    omega

/-- Settles O36: after any number of pairs the outputs are dark again, so the next update event lights its own digit alone. -/
theorem roundRobin : Obligations.RoundRobin := by
  intro s n han hca
  obtain ⟨t, hrun, hant, hcat, hidx, hfb⟩ := execAll_update_compare_pairs n s han hca
  refine ⟨t, _, hrun, hant, hcat, hidx, exec_evDispUpdate (t.readByte_fb _), hfb, fun k hk => ?_⟩
  have anode : t.drs.an.getLsbD k = true := hant ▸ anodesHigh_getLsbD hk
  simp [State.digitDriven, driveAnode_getLsbD, anode, hidx]

/-! ### The commands (R211, R212) -/

/-- Settles O32. -/
theorem drsInitBlanksDisplay : Obligations.DrsInitBlanksDisplay := fun s hs =>
  ⟨s.initDisplay, rfl, rfl, State.readByte_blankSlots hs⟩

/-- Settles O33. -/
theorem drsPutStoresSlot : Obligations.DrsPutStoresSlot := by
  refine ⟨fun s idx byte hs hidx => ?_, fun s idx byte hidx => congrArg _ (State.putSlot_none s idx.toNat byte hidx)⟩
  have slot : idx.toNat < 4 := Nat.lt_succ_of_le hidx
  obtain ⟨-, read⟩ := State.writeByte_slot byte slot hs
  refine ⟨s.writeByte .fb idx.toNat byte, congrArg _ (State.putSlot_slot s idx.toNat byte slot), rfl, ?_, fun k hk => ?_⟩
  · rw [read, if_pos rfl]
  · rw [read, if_neg hk]

end Sys2Proof.Machine
end

section
/-! # What raises the pending flags (42_display_refresh.md R216, 43_stopwatch_tick.md R241, 60_exceptions.md R286, R287)

One equation for each agent that sets a flag: the two timers, board support's line enabling and the injected words. Each speaks of the
agent's effect alone; the listed turn adds only that the agenda is one shorter. -/

namespace Sys2Proof.Machine

/-! ### The timers (R216, R241) -/

section
variable {s : State} {first : DispEvent}

theorem State.dispTimerTurn_disabled (h : s.drs.den = false) : s.dispTimerTurn first = s := by
  simp [State.dispTimerTurn, h]

/-- The event due is the one owed, or the turn's own before any was raised. -/
theorem State.dispEventDue_eq {e : DispEvent} (h : s.drs.nextRaise = some e ∨ s.drs.nextRaise = none ∧ first = e) :
    s.dispEventDue first = e := by
  obtain hnext | ⟨hnext, rfl⟩ := h <;> simp [State.dispEventDue, hnext]

theorem State.dispTimerTurn_update (hden : s.drs.den = true) (hdue : s.dispEventDue first = .update) :
    s.dispTimerTurn first = { s with drs := { s.drs with uif := true, nextRaise := some .compare } } := by
  simp [State.dispTimerTurn, State.raiseDisp, otherDispEvent, hden, hdue]

theorem State.dispTimerTurn_compare (hden : s.drs.den = true) (hdue : s.dispEventDue first = .compare) :
    s.dispTimerTurn first = { s with drs := { s.drs with ccif := true, nextRaise := some .update } } := by
  simp [State.dispTimerTurn, State.raiseDisp, otherDispEvent, hden, hdue]

end

theorem State.tickTimerTurn_eq (s : State) :
    s.tickTimerTurn = { s with stk := { s.stk with tif := s.stk.tif || s.stk.ten } } := by
  obtain h | h := Bool.eq_false_or_eq_true s.stk.ten
  · have raised : (s.stk.tif || s.stk.ten) = true := by simp [h]
    rw [State.tickTimerTurn, if_pos h, State.raiseTick, raised]
  · have kept : (s.stk.tif || s.stk.ten) = s.stk.tif := by simp [h]
    rw [State.tickTimerTurn, if_neg (by simp [h]), kept]

/-! ### Enabling a line (R287) -/

theorem Lines.get_set_true (l : Lines) (src other : Source) :
    (l.set src true).get other = (l.get other || decide (other = src)) := by
  cases src <;> cases other <;> simp [Lines.set, Lines.get]

/-! ### Injected words (R113, R286) -/

theorem State.injectWord_other (s : State) {w : Word}
    (h : w ∉ [0x80000000#32, 0x81000000#32, 0x82000000#32, 0x83000000#32]) : s.injectWord w = s := by
  simp only [List.mem_cons, List.not_mem_nil, or_false, not_or] at h
  obtain ⟨hupdate, hcompare, htick, hedge⟩ := h
  simp [State.injectWord, hupdate, hcompare, htick, hedge]

/-! ### The obligation -/

/-- A listed turn acts on the state with that turn used up. -/
theorem step_listed {s : State} {turn : Turn} {rest : List Turn} (hturn : s.env.agenda = turn :: rest) :
    step s = takeTurn exec turn (s.withAgenda rest) := by
  rw [step_of_turn s turn rest hturn, State.dropTurn_eq_withAgenda hturn]

/-- Settles O42: each clause is the listed turn of one agent, and that agent's equation. -/
theorem eventsRaiseTheirFlags : Obligations.EventsRaiseTheirFlags := by
  intro s rest
  let u := s.withAgenda rest
  refine ⟨fun first hturn => ?_, fun hturn => ?_, fun hturn => step_listed hturn, fun src hturn => ?_, fun w hturn => ?_⟩
  · have turn : step s = .next (u.dispTimerTurn first) := step_listed hturn
    refine ⟨fun hden => ?_, fun hden hdue => ?_, fun hden hdue => ?_⟩
    · exact turn.trans (congrArg _ (State.dispTimerTurn_disabled hden))
    · exact turn.trans (congrArg _ (State.dispTimerTurn_update hden (State.dispEventDue_eq hdue)))
    · exact turn.trans (congrArg _ (State.dispTimerTurn_compare hden (State.dispEventDue_eq hdue)))
  · exact (step_listed hturn).trans (congrArg _ u.tickTimerTurn_eq)
  · exact ⟨u.enableLine src, step_listed hturn, rfl, s.irq.ie.get_set_true src⟩
  · have turn : step s = .next (u.injectWord w) := step_listed hturn
    refine ⟨?_, ?_, ?_, ?_, fun hother => turn.trans (congrArg _ (u.injectWord_other hother))⟩
    -- a word that is known selects its branch by evaluation
    all_goals
      rintro rfl
      exact turn

end Sys2Proof.Machine
end

section
/-! # The stopwatch's commands, tick handler and rendering (43_stopwatch_tick.md R231 to R240, R242)

`RENDER` writes the four slots, so what each instruction of the stopwatch shows is one fact about `State.render`, and its frame is that
rendering moves the frame buffer alone. A trigger is said once of the registers alone (`Stk.triggered`), so that a run of triggers is an
induction over these. -/

namespace Sys2Proof.Machine

/-! ### What the slots show (R235 to R237) -/

section
variable {s t : State}

/-- The four slot writes, each in the buffer the one before left. -/
theorem State.readByte_putSlots (hs : Memory.wf .fb s.fb = true) (d : Slots) (k : Nat) :
    (s.putSlots d).readByte .fb k =
      if k = 3 then some d.s3 else if k = 2 then some d.s2 else if k = 1 then some d.s1 else if k = 0 then some d.s0
      else s.readByte .fb k := by
  obtain ⟨wf0, read0⟩ := State.writeByte_slot (i := 0) d.s0 (by decide) hs
  obtain ⟨wf1, read1⟩ := State.writeByte_slot (i := 1) d.s1 (by decide) wf0
  obtain ⟨wf2, read2⟩ := State.writeByte_slot (i := 2) d.s2 (by decide) wf1
  obtain ⟨-, read3⟩ := State.writeByte_slot (i := 3) d.s3 (by decide) wf2
  have writes : s.putSlots d =
      (((s.writeByte .fb 0 d.s0).writeByte .fb 1 d.s1).writeByte .fb 2 d.s2).writeByte .fb 3 d.s3 := rfl
  rw [writes, read3, read2, read1, read0]

theorem digitAt_eq_zero_iff (c : BitVec 32) (unit : Nat) : digitAt c unit = 0 ↔ c.toNat / unit % 10 = 0 :=
  Fin.ext_iff

/-- The rendered bitmaps are the decimal digits of the count, leading zeros blanked (R236, R237). -/
theorem State.showsCount_iff (s : State) (c : BitVec 32) : s.showsCount c.toNat ↔ s.shows (renderSlots s.par c) := by
  have units : c.toNat / 1 = c.toNat := Nat.div_one _
  have pattern (unit : Nat) : segmentOf s.par.segTable (digitAt c unit) = digitPattern s.par (c.toNat / unit) := rfl
  simp only [State.showsCount, State.shows, renderSlots, digitAt_eq_zero_iff, pattern, units, blankPattern]

/-- Rendering shows the counter and leaves every index past the four slots. -/
theorem State.render_shows (hs : Memory.wf .fb s.fb = true) :
    s.render.showsCount s.stk.counter.toNat ∧ ∀ k, 4 ≤ k → s.render.readByte .fb k = s.readByte .fb k := by
  have read := State.readByte_putSlots hs (renderSlots s.par s.stk.counter)
  refine ⟨?_, fun k hk => ?_⟩
  · rw [State.showsCount_iff, State.render_par]
    exact ⟨read 0, read 1, read 2, read 3⟩
  · have past (i : Nat) (hi : i < 4) : k ≠ i := by omega
    rw [State.render, read, if_neg (past 3 (by decide)), if_neg (past 2 (by decide)), if_neg (past 1 (by decide)),
      if_neg (past 0 (by decide))]

theorem State.render_shows_own (hs : Memory.wf .fb s.fb = true) : s.render.showsCount s.render.stk.counter.toNat := by
  rw [State.render_stk]
  exact (State.render_shows hs).1

/-- Rendering moves the frame buffer alone. -/
theorem State.render_frame (s : State) : s.render = { s with fb := s.render.fb } := rfl

theorem State.blankSlots_fb_wf (hs : Memory.wf .fb s.fb = true) : Memory.wf .fb s.blankSlots.fb = true := by
  have slot {u : State} {i : Nat} (hi : i < 4) (hu : Memory.wf .fb u.fb = true) :
      Memory.wf .fb (u.writeByte .fb i 0x00#8).fb = true := (State.writeByte_slot _ hi hu).1
  exact slot (by decide) (slot (by decide) (slot (by decide) (slot (by decide) hs)))

/-- What the slots show is a matter of the frame buffer and the segment table. -/
theorem State.showsCount_of_eq (hfb : t.fb = s.fb) (hpar : t.par = s.par) {c : Nat} (hs : s.showsCount c) :
    t.showsCount c := by
  simpa only [State.showsCount, State.readByte, State.mem, hfb, hpar] using hs

/-! ### The tick handler at the limit of the counter (R240) -/

theorem counter_below_limit_iff (c : BitVec 32) : c.toNat + 1 < 2 ^ 32 ↔ c ≠ 0xFFFFFFFF#32 := by
  bv_omega

theorem ofNat_toNat_succ (c : BitVec 32) : BitVec.ofNat 32 (c.toNat + 1) = c + 1#32 := by
  bv_omega

/-- A tick that cannot be counted stops the dispatcher's step, too. -/
theorem dispatchTurn_tick_overflow {picked : DispEvent} (h : s.mostUrgent .tick) (hc : s.canCount = false) :
    dispatchTurn exec .tick picked s = .fault .counterOverflow := by
  have overflow : execEvTick (s.enterHandler .tick) = .fault .counterOverflow := (execEvTick_fault _ _).2 ⟨hc, rfl⟩
  simp only [dispatchTurn, State.served_of_mostUrgent h, State.eventOf, exec, overflow, thenState]

end

/-! ### A trigger and the registers (R232, R242) -/

/-- The stopwatch as `STK_INIT` and reset leave it. -/
def Stk.cleared : Stk := { swState := .idle, counter := 0#32, ten := false, tif := false }

/-- What a trigger makes of the stopwatch's registers (R232). -/
def Stk.triggered (k : Stk) : Stk :=
  match k.swState with
  | .idle => { k with ten := true, swState := .running }
  | .running => { k with ten := false, tif := false, swState := .stopped }
  | .stopped => { k with counter := 0#32, ten := false, swState := .idle }

section
variable {k : Stk}

theorem Stk.triggered_idle (h : k.swState = .idle) : k.triggered = { k with ten := true, swState := .running } := by
  rw [Stk.triggered, h]

theorem Stk.triggered_running (h : k.swState = .running) :
    k.triggered = { k with ten := false, tif := false, swState := .stopped } := by
  rw [Stk.triggered, h]

theorem Stk.triggered_stopped (h : k.swState = .stopped) :
    k.triggered = { k with counter := 0#32, ten := false, swState := .idle } := by
  rw [Stk.triggered, h]

/-- A trigger moves on one state of the cycle, and enables the timer exactly in RUNNING (R242). -/
theorem Stk.triggered_cycle (k : Stk) :
    k.triggered.swState.code.toNat = (k.swState.code.toNat + 1) % 3 ∧
      (k.triggered.ten = true ↔ k.triggered.swState = .running) := by
  cases h : k.swState with
  | idle => simp [Stk.triggered_idle h, SwState.code]
  | running => simp [Stk.triggered_running h, SwState.code]
  | stopped => simp [Stk.triggered_stopped h, SwState.code]

end

section
variable {s t : State}

theorem exec_stkTrigger_idle (h : s.stk.swState = .idle) : exec .stkTrigger s = .next s.startStopwatch := by
  simp only [exec, execStkTrigger, h]

theorem exec_stkTrigger_running (h : s.stk.swState = .running) : exec .stkTrigger s = .next s.stopStopwatch := by
  simp only [exec, execStkTrigger, h]

theorem exec_stkTrigger_stopped (h : s.stk.swState = .stopped) : exec .stkTrigger s = .next s.clearStopwatch := by
  simp only [exec, execStkTrigger, h]

theorem State.clearStopwatch_stk (s : State) :
    s.clearStopwatch.stk = { s.stk with counter := 0#32, ten := false, swState := .idle } :=
  State.render_stk _

theorem exec_stkTrigger (s : State) : ∃ t, exec .stkTrigger s = .next t ∧ t.stk = s.stk.triggered := by
  cases h : s.stk.swState with
  | idle => exact ⟨_, exec_stkTrigger_idle h, (Stk.triggered_idle h).symm⟩
  | running => exact ⟨_, exec_stkTrigger_running h, (Stk.triggered_running h).symm⟩
  | stopped => exact ⟨_, exec_stkTrigger_stopped h, s.clearStopwatch_stk.trans (Stk.triggered_stopped h).symm⟩

end

/-! ### The obligations -/

/-- Settles O37: the slots that `DRS_INIT` blanks are the ones that rendering then writes. -/
theorem stkInitResetsStopwatch : Obligations.StkInitResetsStopwatch := by
  intro s hwf
  obtain ⟨shown, past⟩ := State.render_shows (s := { s.initDisplay with stk := Stk.cleared }) (State.blankSlots_fb_wf hwf)
  refine ⟨_, rfl, State.render_frame _, shown, fun k hk => (past k hk).trans ?_⟩
  exact (State.readByte_blankSlots hwf k).trans (if_neg (Nat.not_lt.2 hk))

/-- Settles O38: each transition is its state's, and rendering shows the 0 that STOPPED to IDLE leaves. -/
theorem triggerTransitions : Obligations.TriggerTransitions := by
  refine fun s => ⟨exec_stkTrigger_idle, exec_stkTrigger_running, fun hstopped hwf => ?_⟩
  exact ⟨s.clearStopwatch, exec_stkTrigger_stopped hstopped, State.render_frame _, State.render_shows hwf⟩

/-- Settles O39: a counted tick renders the new count; at the limit the handler's fault is the dispatcher's. -/
theorem tickCountsAndShows : Obligations.TickCountsAndShows := by
  refine ⟨fun s hwf hcount => ?_, fun s hfaults hmax => ?_⟩
  · have can : s.canCount = true := s.canCount_iff.2 (hcount.symm.imp_right (counter_below_limit_iff _).1)
    obtain ⟨shown, past⟩ := State.render_shows
      (s := { s with stk := { s.stk with tif := false, counter := s.stk.counter + 1#32 } }) hwf
    refine ⟨s.countTick, (execEvTick_next s _).2 ⟨can, rfl⟩, ?_, ?_, past⟩
    · rw [ofNat_toNat_succ]
      exact State.render_frame _
    · exact shown
  · have atLimit : ¬ s.stk.counter ≠ 0xFFFFFFFF#32 := fun hne => by
      have below := (counter_below_limit_iff _).2 hne
      omega
    have cannot : s.canCount = false := by
      simp only [← Bool.not_eq_true, s.canCount_iff, hfaults, atLimit, reduceCtorEq, or_self, not_false_eq_true]
    refine ⟨(execEvTick_fault s _).2 ⟨cannot, rfl⟩, fun picked rest hturn hmost => ?_⟩
    exact (step_of_turn s _ rest hturn).trans (dispatchTurn_tick_overflow (s := s.dropTurn) hmost cannot)

/-- Settles O41: an instruction renders the counter it leaves, or leaves frame buffer and counter alone. -/
theorem slotsKeepShowingCounter : Obligations.SlotsKeepShowingCounter := by
  intro i s t hwf hshown hinit hput h
  have kept (hfb : t.fb = s.fb) (hpar : t.par = s.par) (hstk : t.stk.counter = s.stk.counter) :
      t.showsCount t.stk.counter.toNat := by
    rw [hstk]
    exact State.showsCount_of_eq hfb hpar hshown
  obtain hk | hk := kind_engineSide_or_unitSide i
  · have frame := exec_engineFrame hk h
    exact kept frame.fb frame.par (congrArg Stk.counter frame.stk)
  · cases i with
    | drsInit => exact absurd rfl hinit
    | drsPut idx byte => exact absurd rfl (hput idx byte)
    | evDispUpdate | evDispCompare | evSensorEdge => cases h; exact hshown
    | stkInit => cases h; exact State.render_shows_own (State.blankSlots_fb_wf hwf)
    | stkTrigger =>
      cases hs : s.stk.swState with
      | idle => cases (exec_stkTrigger_idle hs).symm.trans h; exact hshown
      | running => cases (exec_stkTrigger_running hs).symm.trans h; exact hshown
      | stopped => cases (exec_stkTrigger_stopped hs).symm.trans h; exact State.render_shows_own hwf
    | evTick =>
      obtain ⟨-, rfl⟩ := (execEvTick_next s t).1 h
      exact State.render_shows_own hwf
    | _ => simp [Instr.kind] at hk

/-- `n` triggers from any state move on `n` states of the cycle. -/
theorem execAll_stkTriggers (n : Nat) (s : State) (hten : s.stk.ten = true ↔ s.stk.swState = .running) :
    ∃ t, execAll (List.replicate n .stkTrigger) s = .next t ∧
      t.stk.swState.code.toNat = (s.stk.swState.code.toNat + n) % 3 ∧ (t.stk.ten = true ↔ t.stk.swState = .running) := by
  induction n generalizing s with
  | zero =>
    have code : s.stk.swState.code.toNat < 3 := by cases s.stk.swState <;> decide
    exact ⟨s, rfl, (Nat.mod_eq_of_lt code).symm, hten⟩
  | succ n ih =>
    obtain ⟨u, hu, hstk⟩ := exec_stkTrigger s
    obtain ⟨hcode, hten'⟩ := s.stk.triggered_cycle
    rw [← hstk] at hcode hten'
    obtain ⟨t, hrun, hcode', ht⟩ := ih u hten'
    refine ⟨t, ?_, ?_, ht⟩
    · simpa only [List.replicate_succ, execAll, hu] using hrun
    · rw [hcode', hcode]
      omega

/-- Settles O40: `IDLE` has code 0. -/
theorem triggerCycle : Obligations.TriggerCycle := by
  intro s n hidle hten
  obtain ⟨t, hrun, hcode, ht⟩ := execAll_stkTriggers n s (by simp [hidle, hten])
  refine ⟨t, hrun, ?_, ht⟩
  rw [hcode, hidle]
  simp [SwState.code]

end Sys2Proof.Machine
end

section
/-! # The stopwatch invariant (43_stopwatch_tick.md R233, R239, R241)

With no test bench, what a step does to the stopwatch's registers is a row of R233's table, a tick raised, or nothing
(`Stk.Transition`), and each of these keeps the invariant. Every turn is shown to be such a transition that leaves the turns to come as
they are, so the machine stays without a test bench. -/

namespace Sys2Proof.Machine

/-! ### The transitions of the registers -/

/-- The registers from one step to the next, with no test bench: a row of R233's table, a tick raised (R241), or nothing. The tick
handler runs only with its flag set. -/
inductive Stk.Transition (k k' : Stk) : Prop where
  | kept (h : k' = k)
  | cleared (h : k' = Stk.cleared)
  | triggered (h : k' = k.triggered)
  | raised (h : k' = { k with tif := k.tif || k.ten })
  | counted (htif : k.tif = true) (h : k' = { k with tif := false, counter := k.counter + 1#32 })

section
variable {k k' : Stk}

/-- The invariants (a), (b), (d) of R239. -/
theorem Stk.ok_iff (k : Stk) :
    k.ok = true ↔ (k.ten = true ↔ k.swState = .running) ∧ (k.tif = true → k.swState = .running) ∧
      (k.swState = .idle → k.counter = 0#32) := by
  have enabled : k.ten = decide (k.swState = .running) ↔ (k.ten = true ↔ k.swState = .running) := by
    rw [Bool.eq_iff_iff, decide_eq_true_iff]
  simp [Stk.ok, enabled, imp_iff_not_or, and_assoc]

theorem Stk.triggered_ok (hk : k.ok = true) : k.triggered.ok = true := by
  obtain ⟨-, htif, -⟩ := k.ok_iff.1 hk
  rw [Stk.ok_iff]
  refine ⟨k.triggered_cycle.2, ?_⟩
  cases h : k.swState with
  | idle => simp [Stk.triggered_idle h]
  | running => simp [Stk.triggered_running h]
  | stopped =>
    have dropped : ¬ k.tif = true := fun ht => absurd (h.symm.trans (htif ht)) nofun
    simp [Stk.triggered_stopped h, dropped]

/-- Only a trigger in STOPPED changes the counter, to 0 in IDLE. -/
theorem Stk.triggered_counter (h : k.triggered.counter ≠ k.counter) :
    k.triggered.swState = .idle ∧ k.triggered.counter = 0#32 := by
  cases hk : k.swState with
  | idle => exact absurd (by rw [Stk.triggered_idle hk]) h
  | running => exact absurd (by rw [Stk.triggered_running hk]) h
  | stopped => simp [Stk.triggered_stopped hk]

theorem Stk.Transition.ok (h : k.Transition k') (hk : k.ok = true) : k'.ok = true := by
  obtain ⟨hten, htif, hidle⟩ := k.ok_iff.1 hk
  cases h with
  | kept h => rw [h]; exact hk
  | cleared h => rw [h]; rfl
  | triggered h => rw [h]; exact Stk.triggered_ok hk
  | raised h =>
    rw [h, Stk.ok_iff]
    refine ⟨hten, fun hraised => ?_, hidle⟩
    obtain hpending | hticks := Bool.or_eq_true_iff.1 hraised
    · exact htif hpending
    · exact hten.1 hticks
  | counted hpending h =>
    have running := htif hpending
    rw [h, Stk.ok_iff]
    exact ⟨hten, nofun, fun hi => absurd (running.symm.trans hi) nofun⟩

/-- (c) of R239: the tick handler runs only in RUNNING, and nothing else counts. -/
theorem Stk.Transition.counter (h : k.Transition k') (hk : k.ok = true) (hne : k'.counter ≠ k.counter) :
    (k.swState = .running ∧ k'.swState = .running ∧ k'.counter = k.counter + 1#32) ∨
      (k'.swState = .idle ∧ k'.counter = 0#32) := by
  obtain ⟨-, htif, -⟩ := k.ok_iff.1 hk
  cases h with
  | kept h | raised h => exact absurd (by rw [h]) hne
  | cleared h => rw [h]; exact .inr ⟨rfl, rfl⟩
  | triggered h => rw [h] at hne ⊢; exact .inr (Stk.triggered_counter hne)
  | counted hpending h => rw [h]; exact .inl ⟨htif hpending, htif hpending, rfl⟩

end

/-! ### What each instruction does to the registers -/

section
variable {s t : State}

theorem exec_unitCommand_transition {i : Instr} (hk : i.kind = .unitCommand) (h : exec i s = .next t) :
    s.stk.Transition t.stk := by
  cases i with
  | drsInit => cases h; exact .kept rfl
  | drsPut idx byte => cases h; exact .kept (s.putSlot_stk _ _)
  | stkInit => cases h; exact .cleared (State.render_stk _)
  | stkTrigger =>
    obtain ⟨u, hu, hstk⟩ := exec_stkTrigger s
    cases hu.symm.trans h
    exact .triggered hstk
  | _ => cases hk

/-- A handler served with its flag set. -/
theorem exec_event_transition {i : Instr} (hk : i.kind = .event) (htif : i = .evTick → s.stk.tif = true)
    (h : exec i s = .next t) : s.stk.Transition t.stk := by
  cases i with
  | evDispUpdate | evDispCompare | evSensorEdge => cases h; exact .kept rfl
  | evTick =>
    obtain ⟨-, rfl⟩ := (execEvTick_next s t).1 h
    exact .counted (htif rfl) s.countTick_stk
  | _ => cases hk

/-! ### The agenda is the environment's: no instruction and no move of the BIU writes it -/

@[simp] theorem State.ackAsked_agenda (s : State) : s.ackAsked.env.agenda = s.env.agenda := by
  unfold State.ackAsked; split <;> rfl

@[simp] theorem State.byteAsked_agenda (s : State) : s.byteAsked.env.agenda = s.env.agenda := by
  unfold State.byteAsked; split <;> rfl

@[simp] theorem State.aDrWrite_agenda (s : State) (v : Byte) : (s.aDrWrite v).env.agenda = s.env.agenda := by
  unfold State.aDrWrite; split <;> rfl

@[simp] theorem State.aDrRead_agenda (s : State) : s.aDrRead.env.agenda = s.env.agenda := by
  unfold State.aDrRead; split <;> rfl

theorem State.takeMove_agenda (s : State) (m : Move) : (s.takeMove m).env.agenda = s.env.agenda := by
  cases m with
  | start | txload => rfl
  | addr => simp only [State.takeMove, State.mAddr]; split <;> simp
  | txbyte => simp only [State.takeMove, State.mTxbyte]; split <;> simp
  | rxbyte => simp only [State.takeMove, State.mRxbyte]; split <;> simp

theorem State.biuTurn_agenda (s : State) : s.biuTurn.env.agenda = s.env.agenda := by
  unfold State.biuTurn
  split
  · exact s.takeMove_agenda _
  · rfl

theorem exec_micro_agenda {i : Instr} (hk : i.kind = .micro) (h : exec i s = .next t) : t.env.agenda = s.env.agenda := by
  cases i with
  | rStage => cases h; simp only [State.setSeq_env]; split <;> simp
  | idle | wStart | wWaitSb | wAddr | wWaitAddr | wClrAddr | wData | wWaitTxe | wWaitBtf | wStop | rStart | rWaitSb | rAddr
  | rAckpol | rWaitAddr | rClrAddr | rWaitRxne | rData | done => cases h; simp
  | _ => cases hk

theorem exec_bteCommand_agenda {i : Instr} (hk : i.kind = .bteCommand) (h : exec i s = .next t) :
    t.env.agenda = s.env.agenda := by
  cases i with
  | bteInit | bteTransact | bteWput | bteRget =>
    cases h
    exact State.whenIdle_cases (P := fun u => u.env.agenda = s.env.agenda) rfl rfl
  | _ => cases hk

/-! ### Every turn (R233, R241) -/

/-- What a turn does to the stopwatch and the turns to come. -/
structure StopwatchTurn (s t : State) : Prop where
  agenda : t.env.agenda = s.env.agenda
  stk : s.stk.Transition t.stk

theorem StopwatchTurn.refl (s : State) : StopwatchTurn s s := ⟨rfl, .kept rfl⟩

/-- The engine's instructions leave the stopwatch alone. -/
theorem exec_engine_stopwatchTurn {i : Instr} (hk : i.kind = .bteCommand ∨ i.kind = .micro) (h : exec i s = .next t) :
    StopwatchTurn s t :=
  ⟨hk.elim (exec_bteCommand_agenda · h) (exec_micro_agenda · h), .kept (exec_engineFrame hk h).stk⟩

theorem exec_unitCommand_stopwatchTurn {i : Instr} (hk : i.kind = .unitCommand) (h : exec i s = .next t) :
    StopwatchTurn s t :=
  ⟨congrArg Env.agenda (exec_unitsOnly (.inl hk) h).env, exec_unitCommand_transition hk h⟩

theorem seqTurn_stopwatchTurn (h : seqTurn exec s = .next t) : StopwatchTurn s t := by
  unfold seqTurn at h
  split at h
  · next i hd => exact exec_engine_stopwatchTurn (.inr (decodeSeq_kind _ i hd)) h
  · cases h

theorem State.pending_of_served {tie src : Source} (h : s.served tie = some src) : s.pending src = true := by
  have may : s.mayServe src = true := by
    unfold State.served at h
    split_ifs at h <;> cases h <;> assumption
  simp only [State.mayServe, State.eligible, Bool.and_eq_true, and_assoc] at may
  exact may.1

theorem State.eventOf_eq_evTick {first : DispEvent} {src : Source} (h : s.eventOf first src = .evTick) : src = .tick := by
  cases src with
  | tick => rfl
  | edge => cases h
  | disp =>
    unfold State.eventOf at h
    dsimp only at h
    split at h <;> cases h

theorem State.afterService_env_stk (s : State) (src : Source) :
    (s.afterService src).env = s.env ∧ (s.afterService src).stk = s.stk := by
  cases src <;> exact ⟨rfl, rfl⟩

/-- The dispatcher serves a tick only while `TIF` is set. -/
theorem dispatchTurn_stopwatchTurn {tie : Source} {first : DispEvent} (h : dispatchTurn exec tie first s = .next t) :
    StopwatchTurn s t := by
  unfold dispatchTurn at h
  split at h
  · cases h; exact .refl s
  · next src hsrc =>
    obtain ⟨u, hrun, rfl⟩ := (thenState_next _ _ _).1 h
    have hk := s.eventOf_kind first src
    have pending (he : s.eventOf first src = .evTick) : s.stk.tif = true := by
      obtain rfl := State.eventOf_eq_evTick he
      exact State.pending_of_served hsrc
    have handled : s.stk.Transition u.stk := exec_event_transition (s := s.enterHandler src) hk pending hrun
    obtain ⟨env, stk⟩ := u.afterService_env_stk src
    exact ⟨congrArg Env.agenda (env.trans (exec_unitsOnly (.inr hk) hrun).env), stk ▸ handled⟩

theorem giveWord_stopwatchTurn {g : Giver} {w : Word} (h : giveWord exec g w s = .next t) : StopwatchTurn s t := by
  unfold giveWord at h
  split at h
  · next i hd =>
    split at h
    · have given : StopwatchTurn (s.popOp g) t := by
        obtain hk | hk := decodeCommand_kind w i hd
        · exact exec_engine_stopwatchTurn (.inl hk) h
        · exact exec_unitCommand_stopwatchTurn hk h
      exact ⟨given.agenda, given.stk⟩
    · cases h; exact .refl s
  · cases h; exact ⟨rfl, .kept rfl⟩

theorem hostOp_stopwatchTurn {g : Giver} {op : HostOp} (h : hostOp exec g s op = .next t) : StopwatchTurn s t := by
  cases op with
  | command w => exact giveWord_stopwatchTurn h
  | edgeTest | freshTest | enableLine => cases h; exact ⟨rfl, .kept rfl⟩
  | handlerReturn => cases h; cases g <;> exact ⟨rfl, .kept rfl⟩

theorem hostTurn_stopwatchTurn {g : Giver} (h : hostTurn exec g s = .next t) : StopwatchTurn s t := by
  unfold hostTurn at h
  split at h
  · cases h; exact .refl s
  · split at h
    · cases h; exact .refl s
    · exact hostOp_stopwatchTurn h

theorem takeTurn_stopwatchTurn {turn : Turn} (hno : ∀ w, turn ≠ .inject w) (h : takeTurn exec turn s = .next t) :
    StopwatchTurn s t := by
  cases turn with
  | seq => exact seqTurn_stopwatchTurn h
  | biu => cases h; exact ⟨s.biuTurn_agenda, .kept s.biuTurn_stk⟩
  | dispTimer first => cases h; exact ⟨congrArg Env.agenda (s.dispTimerTurn_env first), .kept (s.dispTimerTurn_stk first)⟩
  | tickTimer =>
    cases h
    exact ⟨congrArg Env.agenda s.tickTimerTurn_env, .raised (congrArg State.stk s.tickTimerTurn_eq)⟩
  | dispatch tie first => exact dispatchTurn_stopwatchTurn h
  | host g => exact hostTurn_stopwatchTurn h
  | sensorEdge | submit | boot | enableLine => cases h; exact ⟨rfl, .kept rfl⟩
  | inject w => exact absurd rfl (hno w)
  | reset => cases h; exact ⟨rfl, .cleared rfl⟩

/-! ### No test bench -/

theorem State.noBench_iff (s : State) : s.noBench = true ↔ ∀ w, .inject w ∉ s.env.agenda := by
  rw [State.noBench, List.all_eq_true]
  refine ⟨fun h w hw => by simpa using h _ hw, fun h turn hturn => ?_⟩
  split
  next w => exact absurd hturn (h w)
  next => rfl

theorem State.turnNow_ne_inject (hs : s.noBench = true) (w : Word) : s.turnNow ≠ .inject w := by
  intro hturn
  unfold State.turnNow at hturn
  split at hturn
  next turn rest hagenda =>
    refine s.noBench_iff.1 hs w ?_
    rw [hagenda, hturn]
    exact List.mem_cons_self
  next =>
    unfold State.quietTurn at hturn
    split_ifs at hturn

theorem State.dropTurn_noBench (hs : s.noBench = true) : s.dropTurn.noBench = true :=
  s.dropTurn.noBench_iff.2 fun w hw => s.noBench_iff.1 hs w (List.mem_of_mem_drop hw)

theorem StopwatchTurn.noBench (h : StopwatchTurn s t) (hs : s.noBench = true) : t.noBench = true := by
  rw [State.noBench, h.agenda]
  exact hs

theorem step_stopwatchTurn (hs : s.noBench = true) (h : step s = .next t) : StopwatchTurn s.dropTurn t :=
  takeTurn_stopwatchTurn (State.turnNow_ne_inject hs) h

end

/-- Settles O59: a step without the test bench is a transition of R233's table, and each of these keeps the invariant. -/
theorem stopwatchInvariant : Obligations.StopwatchInvariant := by
  intro s t hbench hok h
  have turn := step_stopwatchTurn hbench h
  exact ⟨turn.noBench (State.dropTurn_noBench hbench), turn.stk.ok hok, turn.stk.counter hok⟩

end Sys2Proof.Machine
end

section
/-! # The edge handler begins, and stays in service (44_sensor_bridge_host.md R262, R267)

The handler's event gives the edge context two register accesses, a test between them and a return at the end. No turn but reset's
ends the service unless it is the edge context's, at that return. -/

namespace Sys2Proof.Machine

/-! ### How the handler begins (R262) -/

/-- The two address bytes put together again (20_memory.md R84). -/
theorem reg_bytes_append (reg : BitVec 16) : reg.extractLsb' 8 8 ++ reg.extractLsb' 0 8 = reg :=
  (BitVec.extractLsb'_append_extractLsb'_eq_extractLsb' (by decide)).trans BitVec.extractLsb'_eq_self

theorem regBytes_highFirst {c : Sensor} (h : c.order = .highFirst) (reg : BitVec 16) :
    regFirstByte c.order reg ++ regSecondByte c.order reg = reg := by
  rw [h]
  exact reg_bytes_append reg

theorem regBytes_lowFirst {c : Sensor} (h : c.order = .lowFirst) (reg : BitVec 16) :
    regSecondByte c.order reg ++ regFirstByte c.order reg = reg := by
  rw [h]
  exact reg_bytes_append reg

/-- Settles O46: the two register accesses of the handler, word by word. -/
theorem edgeHandlerBegins : Obligations.EdgeHandlerBegins := by
  rintro s c _ _ _ _ rfl rfl rfl rfl rfl
  exact ⟨fun h => ⟨regBytes_highFirst h _, regBytes_highFirst h _⟩, fun h => ⟨regBytes_lowFirst h _, regBytes_lowFirst h _⟩, rfl⟩

/-! ### The edge handler stays in service until it returns (R267, 60_exceptions.md R292, R293) -/

/-- The return stands last only (R262). -/
theorem handlerBody_return_last {ops : List HostOp} (h : handlerBody (.handlerReturn :: ops) = true) : ops = [] := by
  cases ops with
  | nil => rfl
  | cons op ops => simp [handlerBody] at h

section
variable {s t : State}

theorem Lines.set_edge (l : Lines) {src : Source} {v : Bool} (h : src = .edge → v = true) (hl : l.edge = true) :
    (l.set src v).edge = true := by
  cases src with
  | edge => exact h rfl
  | disp | tick => exact hl

theorem exec_keeps_edge_service {i : Instr} (hs : s.irq.insvc.edge = true) (h : exec i s = .next t) :
    t.irq.insvc.edge = true := by
  rw [(exec_ownedWrites h).insvc]
  exact hs

theorem State.afterService_keeps_edge_service (src : Source) (hs : s.irq.insvc.edge = true) :
    (s.afterService src).irq.insvc.edge = true := by
  cases src <;> exact hs

theorem dispatchTurn_keeps_edge_service {tie : Source} {first : DispEvent} (hs : s.irq.insvc.edge = true)
    (h : dispatchTurn exec tie first s = .next t) : t.irq.insvc.edge = true := by
  unfold dispatchTurn at h
  split at h
  · cases h; exact hs
  · next src _ =>
    obtain ⟨u, hrun, rfl⟩ := (thenState_next _ _ _).1 h
    have entered : (s.enterHandler src).irq.insvc.edge = true := s.irq.insvc.set_edge (fun _ => rfl) hs
    exact State.afterService_keeps_edge_service src (exec_keeps_edge_service entered hrun)

/-- Of the operations of a giver only the edge context's return ends the service. -/
theorem hostOp_keeps_edge_service {g : Giver} {op : HostOp} (hop : g = .edge → op ≠ .handlerReturn)
    (hs : s.irq.insvc.edge = true) (h : hostOp exec g s op = .next t) : t.irq.insvc.edge = true := by
  cases op with
  | command w =>
    change giveWord exec g w s = .next t at h
    unfold giveWord at h
    split at h
    · split at h
      · exact exec_keeps_edge_service (s := s.popOp g) hs h
      · cases h; exact hs
    · cases h; exact hs
  | edgeTest | freshTest | enableLine => cases h; exact hs
  | handlerReturn =>
    cases h
    cases g with
    | main => exact hs
    | edge => exact absurd rfl (hop rfl)

theorem hostTurn_keeps_edge_service {g : Giver} (hret : ∀ ops, s.ctx.edge.prog ≠ .handlerReturn :: ops)
    (hs : s.irq.insvc.edge = true) (h : hostTurn exec g s = .next t) : t.irq.insvc.edge = true := by
  unfold hostTurn at h
  split at h
  · cases h; exact hs
  · split at h
    · cases h; exact hs
    · next op ops hprog =>
      refine hostOp_keeps_edge_service (fun hg hop => ?_) hs h
      subst hg hop
      exact hret ops hprog

theorem takeTurn_keeps_edge_service {turn : Turn} (hr : turn ≠ .reset) (hret : ∀ ops, s.ctx.edge.prog ≠ .handlerReturn :: ops)
    (hs : s.irq.insvc.edge = true) (h : takeTurn exec turn s = .next t) : t.irq.insvc.edge = true := by
  cases turn with
  | seq =>
    change seqTurn exec s = .next t at h
    unfold seqTurn at h
    split at h
    · exact exec_keeps_edge_service hs h
    · cases h
  | biu | dispTimer | tickTimer => cases h; simpa using hs
  | dispatch tie first => exact dispatchTurn_keeps_edge_service hs h
  | host g => exact hostTurn_keeps_edge_service hret hs h
  | sensorEdge | submit | boot | enableLine => cases h; exact hs
  | inject w =>
    cases h
    unfold State.injectWord
    split_ifs <;> simpa [State.raiseDisp] using hs
  | reset => exact absurd rfl hr

end

/-- Settles O48: the invariant puts the return at the end of the handler, so one with more to do is not at its return. -/
theorem edgeHandlerStaysInService : Obligations.EdgeHandlerStaysInService := by
  intro s t hok hs hr hmore h
  have body : handlerBody s.ctx.edge.prog = true := by
    unfold State.handlersOk at hok
    rw [if_pos hs, Bool.and_eq_true] at hok
    exact hok.2
  refine takeTurn_keeps_edge_service (s := s.dropTurn) hr (fun ops hprog => hmore ?_) hs h
  change s.ctx.edge.prog = .handlerReturn :: ops at hprog
  rw [hprog] at body ⊢
  rw [handlerBody_return_last body]

end Sys2Proof.Machine
end

section
/-! # One run of the edge handler (44_sensor_bridge_host.md R261, R262, R265)

The edge context at a command gives it in one step, and a transaction it gives runs to `DONE` before the context goes on. So each
register access is a run that moves the bus, the buffers and the answers alone; the run of the handler is put together from these. -/

namespace Sys2Proof.Machine

/-! ### The edge context has the turn -/

/-- Engine and BIU idle, no turn listed, and the edge context free to do `ops`. -/
structure State.EdgeReady (s : State) (ops : List HostOp) : Prop where
  idle : s.bte.seq = Seq.idle
  quiet : s.biu.quiet = true
  agenda : s.env.agenda = []
  free : s.ctx.edge.awaiting = false
  prog : s.ctx.edge.prog = ops

section
variable {s : State} {op : HostOp} {ops : List HostOp}

/-- With `BUSY` = 0 the port takes every word. -/
theorem State.EdgeReady.canGive (h : s.EdgeReady (op :: ops)) : s.canGive .edge = true := by
  have free : (s.context .edge).awaiting = false := h.free
  have prog : (s.context .edge).prog = op :: ops := h.prog
  cases op with
  | command w =>
    cases hd : decodeCommand w with
    | ok i => simp [State.canGive, free, prog, hd, (s.accepts_iff i).2 fun _ => h.idle]
    | error why => simp [State.canGive, free, prog, hd]
  | edgeTest | freshTest | enableLine | handlerReturn => simp [State.canGive, free, prog]

/-- Neither the sequencer nor the BIU has a step, so the turn is the edge context's. -/
theorem State.EdgeReady.step_eq (h : s.EdgeReady (op :: ops)) : step s = hostOp exec .edge s op := by
  have waits : seqReady s.bte.seq s.biu = false := by rw [h.idle]; rfl
  have still : s.biuChoice = none := by simp [State.biuChoice, Biu.nextMove_of_quiet h.quiet]
  have turn : s.quietTurn = .host .edge := by simp [State.quietTurn, waits, still, h.canGive]
  have free : (s.context .edge).awaiting = false := h.free
  have prog : (s.context .edge).prog = op :: ops := h.prog
  rw [step_of_quiet s h.agenda, turn, s.dropTurn_quiet h.agenda]
  simp [takeTurn, hostTurn, free, prog]

theorem State.EdgeReady.popOp (h : s.EdgeReady (op :: ops)) : (s.popOp .edge).EdgeReady ops :=
  ⟨h.idle, h.quiet, h.agenda, h.free, congrArg (List.drop 1) h.prog⟩

end

/-- A well-formed command has one word, and the port decodes it. -/
theorem giveInstr_command {i : Instr} (hwf : i.wellFormed = true) (hk : i.kind = .bteCommand ∨ i.kind = .unitCommand) :
    ∃ w, giveInstr i = [.command w] ∧ decodeCommand w = .ok i := by
  have hd := decode_encode hwf
  unfold giveInstr
  cases he : encode i with
  | seq c =>
    rw [he] at hd
    have micro := decodeSeq_kind c i hd
    simp [micro] at hk
  | word w =>
    rw [he] at hd
    change decodeWord w = .ok i at hd
    unfold decodeWord at hd
    split at hd
    · have event := decodeEvent_kind w i hd
      simp [event] at hk
    · exact ⟨w, rfl, hd⟩

/-- The edge context gives a command in one step. -/
theorem State.EdgeReady.give {s : State} {i : Instr} {ops : List HostOp} (h : s.EdgeReady (giveInstr i ++ ops))
    (hwf : i.wellFormed = true) (hk : i.kind = .bteCommand ∨ i.kind = .unitCommand) :
    step s = exec i (s.popOp .edge) ∧ (s.popOp .edge).EdgeReady ops := by
  obtain ⟨w, hgive, hd⟩ := giveInstr_command hwf hk
  rw [hgive] at h
  exact ⟨h.step_eq.trans (giveWord_accepted hd (fun _ => h.idle) exec .edge), h.popOp⟩

/-! ### Runs of the edge context -/

/-- A run from `s` to `t` that puts `xs` on the wire, leaves `acks` and `bytes` of the device's answers, and moves neither display nor
interrupt bits nor parameters. -/
structure EdgeRun (s t : State) (xs : List Symbol) (acks : List Bool) (bytes : List Byte) : Prop where
  reaches : Reaches s t
  wire : t.wire = s.wire ++ xs
  env : t.env = { s.env with acks := acks, bytes := bytes }
  drs : t.drs = s.drs
  irq : t.irq = s.irq
  par : t.par = s.par

/-- Such a run that leaves the stopwatch and the frame buffer alone too. -/
structure AccessRun (s t : State) (xs : List Symbol) (acks : List Bool) (bytes : List Byte) : Prop
    extends EdgeRun s t xs acks bytes where
  stk : t.stk = s.stk
  fb : t.fb = s.fb

section
variable {s t u : State} {xs ys : List Symbol} {acks acks' : List Bool} {bytes bytes' : List Byte}

theorem Reaches.refl (s : State) : Reaches s s := ⟨0, rfl⟩

theorem AccessRun.refl (s : State) : AccessRun s s [] s.env.acks s.env.bytes :=
  ⟨⟨.refl s, (List.append_nil _).symm, rfl, rfl, rfl, rfl⟩, rfl, rfl⟩

theorem EdgeRun.trans (h : EdgeRun s t xs acks bytes) (h' : EdgeRun t u ys acks' bytes') :
    EdgeRun s u (xs ++ ys) acks' bytes' :=
  ⟨h.reaches.trans h'.reaches, by rw [h'.wire, h.wire, List.append_assoc], by rw [h'.env, h.env], h'.drs.trans h.drs,
    h'.irq.trans h.irq, h'.par.trans h.par⟩

theorem AccessRun.trans (h : AccessRun s t xs acks bytes) (h' : AccessRun t u ys acks' bytes') :
    AccessRun s u (xs ++ ys) acks' bytes' :=
  ⟨h.toEdgeRun.trans h'.toEdgeRun, h'.stk.trans h.stk, h'.fb.trans h.fb⟩

theorem EdgeRun.acks_eq (h : EdgeRun s t xs acks bytes) : t.env.acks = acks := congrArg Env.acks h.env

theorem EdgeRun.bytes_eq (h : EdgeRun s t xs acks bytes) : t.env.bytes = bytes := congrArg Env.bytes h.env

end

/-! ### Handing bytes over (40_bus_transaction_engine.md R142, R143) -/

section
variable {s : State} {ops : List HostOp}

theorem reaches_wput {idx : BitVec 8} {byte : Byte} (h : s.EdgeReady (giveInstr (.bteWput idx byte) ++ ops)) :
    ∃ t, AccessRun s t [] s.env.acks s.env.bytes ∧ t.EdgeReady ops ∧ t.wbuf = Memory.write .wbuf s.wbuf idx.toNat byte ∧
      t.rbuf = s.rbuf := by
  obtain ⟨given, ready⟩ := h.give rfl (.inl rfl)
  have stored : step s = .next ((s.popOp .edge).writeByte .wbuf idx.toNat byte) :=
    given.trans (exec_bteWput_idle ready.idle idx byte)
  exact ⟨_, ⟨⟨.of_step stored, (List.append_nil _).symm, rfl, rfl, rfl, rfl⟩, rfl, rfl⟩,
    ⟨ready.idle, ready.quiet, ready.agenda, ready.free, ready.prog⟩, rfl, rfl⟩

/-- The bytes of a list go to consecutive entries of `WBUF`. An unlisted entry has no value in either buffer, so writing `WBUF` is
writing `RBUF` and `Memory.writeFrom` serves for both. -/
theorem reaches_wputs (ws : List Byte) {s : State} {k : Nat} (h : s.EdgeReady (giveWputs k ws ++ ops))
    (hlen : k + ws.length ≤ 256) :
    ∃ t, AccessRun s t [] s.env.acks s.env.bytes ∧ t.EdgeReady ops ∧ t.wbuf = Memory.writeFrom s.wbuf k ws ∧
      t.rbuf = s.rbuf := by
  induction ws generalizing s k with
  | nil => exact ⟨s, .refl s, h, rfl, rfl⟩
  | cons w ws ih =>
    rw [List.length_cons] at hlen
    rw [giveWputs, List.append_assoc] at h
    obtain ⟨t, first, ready, wbuf, rbuf⟩ := reaches_wput h
    obtain ⟨u, rest, done, wbuf', rbuf'⟩ := ih ready (by omega)
    have index : (BitVec.ofNat 8 k).toNat = k := Nat.mod_eq_of_lt (by omega)
    rw [wbuf, index] at wbuf'
    rw [first.acks_eq, first.bytes_eq] at rest
    exact ⟨u, first.trans rest, done, wbuf', rbuf'.trans rbuf⟩

theorem State.writeBytes_of_writeFrom {t : State} {m : Memory} {ws : List Byte} (h : t.wbuf = Memory.writeFrom m 0 ws) :
    t.writeBytes ws.length = ws := by
  refine List.ext_getElem (by simp [State.writeBytes]) fun i _ hi => ?_
  have inside := Memory.read_writeFrom_inside m 0 i ws hi
  rw [Nat.zero_add, ← h, List.getElem?_eq_getElem hi] at inside
  have entry : t.readByte .wbuf i = some ws[i] := inside
  simp [State.writeBytes, State.loadByte_of_readByte t .wbuf i _ entry]

/-- The answer goes to the edge context. -/
theorem reaches_rget {idx : BitVec 8} {v : Byte} (h : s.EdgeReady (giveInstr (.bteRget idx) ++ ops))
    (hv : s.readByte .rbuf idx.toNat = some v) :
    ∃ t, AccessRun s t [] s.env.acks s.env.bytes ∧ t.EdgeReady ops ∧ t.ctx.edge.resp = v := by
  obtain ⟨given, ready⟩ := h.give rfl (.inl rfl)
  have answered : step s = .next ((s.popOp .edge).respond v) := given.trans (exec_bteRget_written ready.idle hv)
  exact ⟨_, ⟨⟨.of_step answered, (List.append_nil _).symm, rfl, rfl, rfl, rfl⟩, rfl, rfl⟩,
    ⟨ready.idle, ready.quiet, ready.agenda, ready.free, ready.prog⟩, rfl⟩

end

/-! ### A transaction, and what becomes of its giver (40_bus_transaction_engine.md R144, R169, R170) -/

/-- The machine when the transaction of `m` and `n` bytes just accepted has retired: all givers released, the engine idle. -/
def State.retired (s : State) (addr : BitVec 7) (m n : BitVec 8) (b : Biu) (reads : List Byte) (acks : List Bool)
    (bytes : List Byte) : State :=
  (s.beginTransaction addr m n).releaseGivers.atPoint
    { seq := Seq.idle, widx := m, ridx := n, biu := b,
      wire := s.wire ++ transactionSymbols addr (s.writeBytes m.toNat) reads,
      rbuf := Memory.writeFrom s.rbuf 0 reads, acks := acks, bytes := bytes }

/-- `wholeTransaction` with the whole state at its end: the giver's list and answer are as they were. -/
theorem reaches_retired {s : State} {addr : BitVec 7} {m n : BitVec 8} {reads bytes : List Byte} {acks : List Bool}
    (hquiet : s.biu.quiet = true) (hq : s.env.agenda = []) (hsome : ¬ (m = 0#8 ∧ n = 0#8))
    (hacks : s.env.acks = List.replicate (acksAsked m.toNat n.toNat) true ++ acks) (hbytes : s.env.bytes = reads ++ bytes)
    (hreads : reads.length = n.toNat) :
    ∃ b : Biu, b.quiet = true ∧ Reaches (s.beginTransaction addr m n) (s.retired addr m n b reads acks bytes) := by
  let begun := s.beginTransaction addr m n
  obtain ⟨dr, sh, ackl, path⟩ := reaches_done_of_firstMicro begun begun.progress s.biu.dr s.biu.sh s.biu.ackl s.biu.acken acks
    bytes reads hreads hsome
  have start : begun.atPoint
      { begun.progress with
        seq := firstMicro m n, widx := 0#8, ridx := 0#8, biu := .resting s.biu.dr s.biu.sh s.biu.ackl s.biu.acken,
        acks := List.replicate (acksAsked m.toNat n.toNat) true ++ acks, bytes := reads ++ bytes } = begun := by
    rw [← Biu.eq_resting hquiet, ← hbytes, ← hacks]
    exact State.atPoint_progress hq
  have from_start : Reaches begun _ := (congrArg (Reaches · _) start).mp path
  exact ⟨_, Biu.resting_quiet _ _ _ _, from_start.trans (.of_step (step_quiet_micro (i := .done) rfl rfl rfl))⟩

/-- `TRANSACT` but for the fetch of the bytes read (30_encoding.md R126 b). -/
theorem reaches_transact {s : State} {ops : List HostOp} {addr : BitVec 7} {ws reads bytes : List Byte} {acks : List Bool}
    (h : s.EdgeReady (giveWputs 0 ws ++
      (giveInstr (.bteTransact addr (BitVec.ofNat 8 ws.length) (BitVec.ofNat 8 reads.length)) ++ ops)))
    (hpos : 0 < ws.length) (hws : ws.length < 256) (hrs : reads.length < 256)
    (hacks : s.env.acks = List.replicate (acksAsked ws.length reads.length) true ++ acks) (hbytes : s.env.bytes = reads ++ bytes) :
    ∃ t, AccessRun s t (transactionSymbols addr ws reads) acks bytes ∧ t.EdgeReady ops ∧
      t.rbuf = Memory.writeFrom s.rbuf 0 reads := by
  obtain ⟨u, written, ready, wbuf, rbuf⟩ := reaches_wputs ws h (by omega)
  obtain ⟨given, pop⟩ := ready.give rfl (.inl rfl)
  have m : (BitVec.ofNat 8 ws.length).toNat = ws.length := Nat.mod_eq_of_lt hws
  have n : (BitVec.ofNat 8 reads.length).toNat = reads.length := Nat.mod_eq_of_lt hrs
  have some_written : BitVec.ofNat 8 ws.length ≠ 0#8 := (toNat_pos_iff _).1 (by omega)
  obtain ⟨b, quiet, path⟩ := reaches_retired (s := u.popOp .edge) (addr := addr) (reads := reads) (bytes := bytes) (acks := acks)
    pop.quiet pop.agenda (fun none => some_written none.1) (by rw [m, n]; exact written.acks_eq.trans hacks)
    (written.bytes_eq.trans hbytes) n.symm
  have accepted : step u = .next ((u.popOp .edge).beginTransaction addr _ _) := given.trans (exec_bteTransact_idle pop.idle addr _ _)
  have sent : (u.popOp .edge).writeBytes (BitVec.ofNat 8 ws.length).toNat = ws := by
    rw [m]
    exact State.writeBytes_of_writeFrom (t := u.popOp .edge) wbuf
  have answers : { u.env with agenda := [], acks := acks, bytes := bytes } = { u.env with acks := acks, bytes := bytes } := by
    rw [← ready.agenda]
  have run : AccessRun u _ (transactionSymbols addr ws reads) acks bytes :=
    ⟨⟨(Reaches.of_step accepted).trans path, congrArg (u.wire ++ transactionSymbols addr · reads) sent, answers, rfl, rfl, rfl⟩,
      rfl, rfl⟩
  exact ⟨_, written.trans run, ⟨rfl, quiet, rfl, rfl, pop.prog⟩, congrArg (Memory.writeFrom · 0 reads) rbuf⟩

/-! ### Register accesses (R261) -/

section
variable {s : State} {c : Sensor} {reg : BitVec 16} {ops : List HostOp} {acks : List Bool}

theorem reaches_writeReg {val : Byte} (h : s.EdgeReady (writeReg c reg val ++ ops))
    (hacks : s.env.acks = List.replicate 4 true ++ acks) :
    ∃ t, AccessRun s t (transactionSymbols c.addr [regFirstByte c.order reg, regSecondByte c.order reg, val] []) acks
        s.env.bytes ∧
      t.EdgeReady ops := by
  obtain ⟨t, run, ready, -⟩ := reaches_transact (ws := [_, _, _]) (reads := []) h (by simp) (by simp) (by simp) hacks rfl
  exact ⟨t, run, ready⟩

theorem reaches_readReg {v : Byte} {bytes : List Byte} (h : s.EdgeReady (readReg c reg ++ ops))
    (hacks : s.env.acks = List.replicate 4 true ++ acks) (hbytes : s.env.bytes = v :: bytes) :
    ∃ t, AccessRun s t (transactionSymbols c.addr [regFirstByte c.order reg, regSecondByte c.order reg] [v]) acks bytes ∧
      t.EdgeReady ops ∧ t.ctx.edge.resp = v := by
  obtain ⟨t, run, ready, rbuf⟩ := reaches_transact (ws := [_, _]) (reads := [v]) (ops := giveInstr (.bteRget 0#8) ++ ops) h
    (by simp) (by simp) (by simp) hacks hbytes
  have received : t.readByte .rbuf 0 = some v := by
    change Memory.read .rbuf t.rbuf 0 = some v
    rw [rbuf]
    exact Memory.read_writeFrom_inside s.rbuf 0 0 [v] Nat.one_pos
  obtain ⟨u, fetched, done, answer⟩ := reaches_rget ready received
  rw [run.acks_eq, run.bytes_eq] at fetched
  have whole := run.trans fetched
  rw [List.append_nil] at whole
  exact ⟨u, whole, done, answer⟩

end

/-! ### The test and its branch (R262, R265) -/

section
variable {s t : State} {c : Sensor} {ops : List HostOp}

/-- The test is replaced by its branch. -/
theorem reaches_edgeBranch (h : s.EdgeReady (.edgeTest :: ops)) :
    ∃ t, AccessRun s t [] s.env.acks s.env.bytes ∧ t.EdgeReady (edgeBranch s.par.sensor s.ctx.edge.resp ++ ops) := by
  have ready := h.popOp
  exact ⟨_, ⟨⟨.of_step h.step_eq, (List.append_nil _).symm, rfl, rfl, rfl, rfl⟩, rfl, rfl⟩,
    ⟨ready.idle, ready.quiet, ready.agenda, ready.free, congrArg (_ ++ ·) ready.prog⟩⟩

/-- A trigger moves the stopwatch and, from STOPPED, the frame buffer. -/
theorem exec_stkTrigger_frame (h : exec .stkTrigger s = .next t) : t.drs = s.drs ∧ t.irq = s.irq ∧ t.ctx = s.ctx := by
  cases hs : s.stk.swState with
  | idle => cases (exec_stkTrigger_idle hs).symm.trans h; exact ⟨rfl, rfl, rfl⟩
  | running => cases (exec_stkTrigger_running hs).symm.trans h; exact ⟨rfl, rfl, rfl⟩
  | stopped => cases (exec_stkTrigger_stopped hs).symm.trans h; simp

theorem reaches_trigger (h : s.EdgeReady (giveInstr .stkTrigger ++ ops)) :
    ∃ t, EdgeRun s t [] s.env.acks s.env.bytes ∧ t.EdgeReady ops ∧ t.stk = s.stk.triggered := by
  obtain ⟨given, ready⟩ := h.give rfl (.inr rfl)
  obtain ⟨t, triggered, stk⟩ := exec_stkTrigger (s.popOp .edge)
  obtain ⟨drs, irq, ctx⟩ := exec_stkTrigger_frame triggered
  have kept := exec_unitsOnly (.inl rfl) triggered
  exact ⟨t, ⟨.of_step (given.trans triggered), by rw [kept.wire, List.append_nil]; rfl, kept.env, drs, irq, kept.par⟩,
    ⟨kept.bte ▸ ready.idle, kept.biu ▸ ready.quiet, kept.env ▸ ready.agenda, ctx ▸ ready.free, ctx ▸ ready.prog⟩, stk⟩

/-- What the branch makes of the stopwatch and the frame buffer: one trigger exactly when the mode read is `MODE_LOW`. -/
structure TriggeredIf (near : Prop) [Decidable near] (s t : State) : Prop where
  state : t.stk.swState.code.toNat = (s.stk.swState.code.toNat + if near then 1 else 0) % 3
  kept : ¬ near → t.stk = s.stk ∧ t.fb = s.fb

theorem TriggeredIf.of_kept {near : Prop} [Decidable near] (hn : ¬ near) (stk : t.stk = s.stk) (fb : t.fb = s.fb) :
    TriggeredIf near s t := by
  refine ⟨?_, fun _ => ⟨stk, fb⟩⟩
  rw [if_neg hn, stk]
  cases s.stk.swState <;> rfl

theorem TriggeredIf.of_triggered {near : Prop} [Decidable near] (hn : near) (stk : t.stk = s.stk.triggered) :
    TriggeredIf near s t := by
  refine ⟨?_, fun far => absurd hn far⟩
  rw [if_pos hn, stk]
  exact s.stk.triggered_cycle.1

/-- Near triggers and arms high, anything else arms low. -/
theorem reaches_armed {v : Byte} {acks : List Bool} (h : s.EdgeReady (edgeBranch c v ++ ops))
    (hacks : s.env.acks = List.replicate 4 true ++ acks) :
    ∃ t, EdgeRun s t (transactionSymbols c.addr [regFirstByte c.order c.regIntMode, regSecondByte c.order c.regIntMode,
        if v = c.modeLow then c.modeHigh else c.modeLow] []) acks s.env.bytes ∧
      t.EdgeReady ops ∧ TriggeredIf (v = c.modeLow) s t := by
  unfold edgeBranch at h
  by_cases near : v = c.modeLow
  · rw [if_pos near, List.append_assoc] at h
    obtain ⟨t, trigger, ready, stk⟩ := reaches_trigger h
    obtain ⟨u, arm, done⟩ := reaches_writeReg ready (trigger.acks_eq.trans hacks)
    rw [trigger.bytes_eq] at arm
    rw [if_pos near]
    exact ⟨u, trigger.trans arm.toEdgeRun, done, .of_triggered near (arm.stk.trans stk)⟩
  · rw [if_neg near] at h
    obtain ⟨t, arm, done⟩ := reaches_writeReg h hacks
    rw [if_neg near]
    exact ⟨t, arm.toEdgeRun, done, .of_kept near arm.stk arm.fb⟩

end

/-! ### The run (R265) -/

/-- Settles O47: the read, the test, the branch, the interrupt-clear write and the return, one run after the other. -/
theorem edgeHandlerRun : Obligations.EdgeHandlerRun := by
  rintro s c v laterBytes laterAcks rfl hidle hquiet hq - hfree hprog hacks hbytes
  have begun : s.EdgeReady (edgeHandler s.par.sensor) := ⟨hidle, hquiet, hq, hfree, hprog⟩
  obtain ⟨s₁, read, ready₁, answer⟩ := reaches_readReg (acks := List.replicate 8 true ++ laterAcks) begun hacks hbytes
  obtain ⟨s₂, test, ready₂⟩ := reaches_edgeBranch ready₁
  rw [read.acks_eq, read.bytes_eq] at test
  rw [answer, read.par] at ready₂
  obtain ⟨s₃, armed, ready₃, trigger⟩ := reaches_armed (acks := List.replicate 4 true ++ laterAcks) ready₂ test.acks_eq
  rw [test.bytes_eq] at armed
  obtain ⟨s₄, clear, ready₄⟩ := reaches_writeReg ready₃ armed.acks_eq
  rw [armed.bytes_eq] at clear
  have asked := read.trans test
  have run := (asked.toEdgeRun.trans armed).trans clear.toEdgeRun
  have done := ready₄.popOp
  obtain ⟨k, hk⟩ := run.reaches.trans (.of_step ready₄.step_eq)
  refine ⟨_, k, hk, ?_, ?_, fun far => ?_, ?_, done.prog, done.free, done.idle, done.quiet, run.drs, run.env⟩
  · change s₄.wire = _
    simpa using run.wire
  · change s₄.stk.swState.code.toNat = _
    rw [clear.stk, trigger.state, asked.stk]
  · obtain ⟨stk, fb⟩ := trigger.kept far
    exact ⟨(clear.stk.trans stk).trans asked.stk, (clear.fb.trans fb).trans asked.fb⟩
  · change { s₄.irq with insvc := s₄.irq.insvc.set .edge false } = _
    rw [run.irq]
    rfl

end Sys2Proof.Machine
end

section
/-! # What the dispatcher's turn does (60_exceptions.md R288 to R294)

The dispatcher's pick is a most urgent eligible source, and there is a pick as soon as a source is eligible. What its turn then does has
two forms: nothing or one of the block's own handlers, whole, with every in-service bit as before; or the edge handler begun. -/

namespace Sys2Proof.Machine

/-! ### The pick (R289) -/

section
variable {s : State} {tie src : Source}

theorem State.mayServe_iff (s : State) (src : Source) : s.mayServe src = true ↔ s.mostUrgent src := by
  refine ⟨fun h => ?_, State.mayServe_of_mostUrgent⟩
  simp only [State.mayServe, Bool.and_eq_true, Bool.or_eq_true, Bool.not_eq_true', decide_eq_true_eq] at h
  obtain ⟨⟨⟨heligible, hdisp⟩, htick⟩, hedge⟩ := h
  refine ⟨(s.eligible_iff src).1 heligible, fun other hother => ?_⟩
  have eligible : s.eligible other ≠ false := by simp [(s.eligible_iff other).2 hother]
  cases other with
  | disp => exact hdisp.resolve_left eligible
  | tick => exact htick.resolve_left eligible
  | edge => exact hedge.resolve_left eligible

theorem State.mostUrgent_of_served (h : s.served tie = some src) : s.mostUrgent src := by
  rw [← State.mayServe_iff]
  unfold State.served at h
  split_ifs at h <;> cases h <;> assumption

/-- Among the eligible sources there is one of least `PRIO`. -/
theorem State.exists_mostUrgent (h : s.eligibleFor src) : ∃ chosen, s.mostUrgent chosen :=
  have some : {other | s.eligibleFor other}.Nonempty := ⟨src, h⟩
  ⟨Function.argminOn s.urgency _ some, Function.argminOn_mem _ _ some,
    fun other hother => Function.argminOn_le s.urgency {other | s.eligibleFor other} (a := other) hother⟩

theorem State.served_eq_none_iff : s.served tie = none ↔ ∀ src, ¬ s.eligibleFor src := by
  constructor
  · intro h src hsrc
    obtain ⟨chosen, hchosen⟩ := State.exists_mostUrgent hsrc
    have may := (s.mayServe_iff chosen).2 hchosen
    unfold State.served at h
    split_ifs at h
    cases chosen <;> contradiction
  · intro h
    cases hs : s.served tie with
    | none => rfl
    | some src => exact absurd (State.mostUrgent_of_served hs).1 (h src)

/-- A source in service masks itself (R291). -/
theorem State.not_inService_of_eligibleFor (h : s.eligibleFor src) : s.irq.insvc.get src = false := by
  obtain ⟨-, -, unmasked⟩ := h
  exact Bool.eq_false_iff.2 fun inService => Nat.lt_irrefl _ (unmasked src inService)

theorem dispatchTurn_of_none {run : Instr → State → Result} {picked : DispEvent} (h : ∀ src, ¬ s.eligibleFor src) :
    dispatchTurn run tie picked s = .next s := by
  simp only [dispatchTurn, State.served_eq_none_iff.2 h]

/-- The turn acts as one that names the source picked. -/
theorem dispatchTurn_of_served {run : Instr → State → Result} {picked : DispEvent} (h : s.served tie = some src) :
    dispatchTurn run tie picked s = dispatchTurn run src picked s := by
  simp only [dispatchTurn, h, State.served_of_mostUrgent (State.mostUrgent_of_served h)]

end

/-- Settles O43: the pick is a most urgent source, and the turn is then the one that names it. -/
theorem dispatcherServesMostUrgent : Obligations.DispatcherServesMostUrgent := by
  intro s tie picked rest hturn
  rw [step_listed hturn]
  refine ⟨fun hnone => dispatchTurn_of_none (s := s.withAgenda rest) hnone, fun src hsrc => ?_⟩
  cases hserved : (s.withAgenda rest).served tie with
  | none => exact absurd hsrc (State.served_eq_none_iff.1 hserved src)
  | some chosen =>
    have most : (s.withAgenda rest).mostUrgent chosen := State.mostUrgent_of_served hserved
    refine ⟨chosen, most, fun htie => ?_, fun hcount => ?_⟩
    · exact Option.some.inj (hserved.symm.trans (State.served_of_mostUrgent (s := s.withAgenda rest) htie))
    · obtain ⟨t, ht, hto⟩ := dispatchTurn_servedTo most picked hcount
      exact ⟨t, (dispatchTurn_of_served hserved).trans ht, hto⟩

/-! ### The two forms of the turn (R291 to R294) -/

theorem UnitsOnly.refl (s : State) : UnitsOnly s s := by constructor <;> rfl

/-- Nothing, or one of the block's own handlers from entry to return: the interrupt bits and the givers are as before. -/
structure ServedWhole (s t : State) : Prop extends UnitsOnly s t where
  irq : t.irq = s.irq
  ctx : t.ctx = s.ctx

theorem ServedWhole.refl (s : State) : ServedWhole s s := ⟨.refl s, rfl, rfl⟩

/-- The edge handler begun: in service, the latch cleared, its program placed (R292, 44_sensor_bridge_host.md R262). -/
def State.edgeEntered (s : State) : State :=
  { s with
    irq := { s.irq with insvc := s.irq.insvc.set .edge true, eif := false },
    ctx := { s.ctx with edge := { s.ctx.edge with prog := edgeHandler s.par.sensor } } }

/-- Entry and return undo each other on a bit that was clear. -/
theorem Lines.set_true_set_false {l : Lines} {src : Source} (h : l.get src = false) : (l.set src true).set src false = l := by
  obtain ⟨disp, tick, edge⟩ := l
  cases src <;> cases h <;> rfl

section
variable {s t u : State} {tie src : Source} {picked : DispEvent}

/-- The display's and the tick's handlers touch neither interrupt bits nor givers. -/
theorem exec_event_keeps_irq_ctx {i : Instr} (hk : i.kind = .event) (hi : i ≠ .evSensorEdge) (h : exec i s = .next t) :
    t.irq = s.irq ∧ t.ctx = s.ctx := by
  cases i with
  | evDispUpdate | evDispCompare => cases h; exact ⟨rfl, rfl⟩
  | evTick =>
    obtain ⟨-, rfl⟩ := (execEvTick_next s t).1 h
    exact ⟨s.countTick_irq, s.countTick_ctx⟩
  | evSensorEdge => exact absurd rfl hi
  | _ => cases hk

theorem State.eventOf_ne_evSensorEdge (s : State) (picked : DispEvent) (hsrc : src ≠ .edge) :
    s.eventOf picked src ≠ .evSensorEdge := by
  cases src with
  | disp => unfold State.eventOf; dsimp only; split <;> nofun
  | tick => nofun
  | edge => exact absurd rfl hsrc

/-- One of the block's own handlers, between an entry and the return. -/
theorem servedWhole_of_exec (hsrc : src ≠ .edge) (hfree : s.irq.insvc.get src = false)
    (h : exec (s.eventOf picked src) (s.enterHandler src) = .next u) : ServedWhole s (u.afterService src) := by
  have hk := s.eventOf_kind picked src
  have units : UnitsOnly (s.enterHandler src) u := exec_unitsOnly (.inr hk) h
  obtain ⟨irq, ctx⟩ := exec_event_keeps_irq_ctx hk (s.eventOf_ne_evSensorEdge picked hsrc) h
  have returned : (u.leaveHandler src).irq = s.irq := by
    simp only [State.leaveHandler_irq, irq, State.enterHandler_irq, Lines.set_true_set_false hfree]
  have left : u.afterService src = u.leaveHandler src := by
    cases src with
    | disp | tick => rfl
    | edge => exact absurd rfl hsrc
  rw [left]
  exact ⟨⟨units.bte, units.biu, units.wbuf, units.rbuf, units.wire, units.rsp, units.env, congrArg Irq.ie returned,
    congrArg Irq.insvc returned, units.par⟩, returned, ctx⟩

theorem dispatchTurn_cases (h : dispatchTurn exec tie picked s = .next t) :
    ServedWhole s t ∨ (s.irq.insvc.edge = false ∧ t = s.edgeEntered) := by
  unfold dispatchTurn at h
  split at h
  · cases h; exact .inl (.refl s)
  · next src hsrc =>
    obtain ⟨u, hrun, rfl⟩ := (thenState_next _ _ _).1 h
    have free := State.not_inService_of_eligibleFor (State.mostUrgent_of_served hsrc).1
    by_cases hedge : src = .edge
    · subst hedge
      cases hrun
      exact .inr ⟨free, rfl⟩
    · exact .inl (servedWhole_of_exec hedge free hrun)

end

/-- Settles O44: a whole handler leaves the interrupt bits as they were, the edge handler's entry sets its own and nothing else. -/
theorem handlersEnterAndReturn : Obligations.HandlersEnterAndReturn := by
  intro s t tie picked rest hturn h
  rw [step_listed hturn] at h
  refine ⟨fun src inService heligible => ?_, ?_⟩
  · exact absurd inService (Bool.eq_false_iff.1 (State.not_inService_of_eligibleFor heligible))
  · obtain whole | ⟨free, rfl⟩ := dispatchTurn_cases h
    · exact ⟨whole.bte, whole.biu, whole.wbuf, whole.rbuf, whole.wire, whole.ie, congrArg Lines.disp whole.insvc,
        congrArg Lines.tick whole.insvc, .inl ⟨whole.insvc, whole.ctx, congrArg Irq.eif whole.irq⟩⟩
    · exact ⟨rfl, rfl, rfl, rfl, rfl, rfl, rfl, rfl, .inr ⟨free, rfl, rfl, rfl, rfl, rfl, rfl⟩⟩

/-! ### While the edge handler is in service (R288, R290, R294) -/

section
variable {s t : State} {tie : Source} {picked : DispEvent}

/-- By the default priorities the edge handler masks the tick and itself, not the display. -/
theorem State.eligibleFor_under_edge (hprio : s.par.prio = { disp := 0, tick := 1, edge := 1 })
    (hinsvc : s.irq.insvc = { disp := false, tick := false, edge := true }) (src : Source) :
    s.eligibleFor src ↔ src = .disp ∧ s.irq.ie.disp = true ∧ (s.drs.uif = true ∨ s.drs.ccif = true) := by
  have unmasked : s.masked src = decide (src ≠ .disp) := by
    cases src <;> simp [State.masked, State.urgency, hinsvc, hprio]
  rw [← State.eligible_iff, State.eligible, unmasked]
  cases src with
  | disp => simp [State.pending, Lines.get, and_comm]
  | tick | edge => simp

theorem State.handlerOf_update (hu : s.drs.uif = true) (h : s.drs.ccif = false ∨ picked = .update) :
    s.handlerOf picked .disp = .evDispUpdate := by
  unfold State.handlerOf
  simp only [hu, Bool.true_eq_false, if_false, ite_eq_left_iff]
  exact fun hc hp => absurd (h.resolve_left hc) hp

theorem State.handlerOf_compare (hc : s.drs.ccif = true) (h : s.drs.uif = false ∨ picked = .compare) :
    s.handlerOf picked .disp = .evDispCompare := by
  obtain hu | rfl := h <;> simp [State.handlerOf, *]

/-- The display's handlers keep the stopwatch and the frame buffer. -/
theorem State.servedTo_disp_keeps (h : s.servedTo .disp picked t) : t.stk = s.stk ∧ t.fb = s.fb := by
  obtain ⟨u, hrun, rfl⟩ := h
  unfold State.handlerOf at hrun
  dsimp only at hrun
  split_ifs at hrun <;> cases hrun <;> exact ⟨rfl, rfl⟩

end

/-- Settles O45: nothing but the display is eligible, and its event is the one the handler named is for. -/
theorem edgeHandlerMasksTicks : Obligations.EdgeHandlerMasksTicks := by
  intro s tie picked rest hturn hprio hinsvc
  rw [step_listed hturn]
  have only := State.eligibleFor_under_edge (s := s.withAgenda rest) hprio hinsvc
  cases hserved : (s.withAgenda rest).served tie with
  | none =>
    have still : ¬ (s.irq.ie.disp = true ∧ (s.drs.uif = true ∨ s.drs.ccif = true)) := fun hp =>
      State.served_eq_none_iff.1 hserved .disp ((only .disp).2 ⟨rfl, hp⟩)
    refine ⟨s.withAgenda rest, dispatchTurn_of_none (State.served_eq_none_iff.1 hserved), rfl, rfl, rfl, rfl,
      fun hie hu _ => absurd ⟨hie, .inl hu⟩ still, fun hie hc _ => absurd ⟨hie, .inr hc⟩ still, fun _ => rfl⟩
  | some src =>
    have most := State.mostUrgent_of_served hserved
    obtain ⟨rfl, hie, hpending⟩ := (only src).1 most.1
    obtain ⟨t, ht, hto⟩ := dispatchTurn_servedTo most picked nofun
    have turn : dispatchTurn exec tie picked (s.withAgenda rest) = .next t := (dispatchTurn_of_served hserved).trans ht
    obtain ⟨stk, fb⟩ := State.servedTo_disp_keeps hto
    have whole : ServedWhole (s.withAgenda rest) t := by
      obtain whole | ⟨free, -⟩ := dispatchTurn_cases turn
      · exact whole
      · exact absurd ((congrArg Lines.edge hinsvc).symm.trans free) nofun
    refine ⟨t, turn, stk, whole.irq, whole.ctx, fb, fun _ hu hpick => ?_, fun _ hc hpick => ?_, fun hnone => ?_⟩
    · obtain ⟨u, hrun, rfl⟩ := hto
      rw [State.handlerOf_update (s := s.withAgenda rest) hu hpick] at hrun
      cases hrun
      exact ⟨rfl, rfl, rfl⟩
    · obtain ⟨u, hrun, rfl⟩ := hto
      rw [State.handlerOf_compare (s := s.withAgenda rest) hc hpick] at hrun
      cases hrun
      exact ⟨rfl, rfl, rfl, rfl⟩
    · obtain hoff | ⟨hu, hc⟩ := hnone
      · exact absurd (hoff.symm.trans hie) nofun
      · exact absurd hpending (by simp [State.withAgenda, hu, hc])

end Sys2Proof.Machine
end

section
/-! # From a legal `SEQ` every step succeeds (10_state.md R41, 43_stopwatch_tick.md R240, 60_exceptions.md R280)

Two facts meet: every turn has a next state but the dispatcher's at a tick that cannot be counted, and what a turn writes to `SEQ` is a
row of the successor table, the first micro-operation of a transaction, or `IDLE`. -/

namespace Sys2Proof.Machine

/-! ### There is a next state, or the one named fault -/

section
variable {s : State}

theorem seqTurn_has_next {i : Instr} (hd : decodeSeq s.bte.seq = .ok i) : ∃ t, seqTurn exec s = .next t := by
  have noEvent : i.kind ≠ .event := by simp [decodeSeq_kind _ i hd]
  simpa only [seqTurn, hd] using exec_has_next s (fun hk => absurd hk noEvent)

/-- The dispatcher stops only at a pending tick that cannot be counted. -/
theorem dispatchTurn_next_or_overflow (tie : Source) (picked : DispEvent) :
    (∃ t, dispatchTurn exec tie picked s = .next t) ∨
      (s.canCount = false ∧ s.stk.tif = true ∧ dispatchTurn exec tie picked s = .fault .counterOverflow) := by
  cases hserved : s.served tie with
  | none => exact .inl ⟨s, dispatchTurn_of_none (State.served_eq_none_iff.1 hserved)⟩
  | some src =>
    have most := State.mostUrgent_of_served hserved
    rw [dispatchTurn_of_served hserved]
    by_cases hc : src = .tick → s.canCount = true
    · obtain ⟨t, ht, -⟩ := dispatchTurn_servedTo most picked hc
      exact .inl ⟨t, ht⟩
    · obtain ⟨rfl, hfull⟩ := Classical.not_imp.1 hc
      have full : s.canCount = false := Bool.eq_false_iff.2 hfull
      exact .inr ⟨full, most.1.1, dispatchTurn_tick_overflow most full⟩

theorem takeTurn_next_or_overflow (turn : Turn) {i : Instr} (hd : decodeSeq s.bte.seq = .ok i) :
    (∃ t, takeTurn exec turn s = .next t) ∨
      (s.canCount = false ∧ s.stk.tif = true ∧ takeTurn exec turn s = .fault .counterOverflow) := by
  cases turn with
  | seq => exact .inl (seqTurn_has_next hd)
  | dispatch tie picked => exact dispatchTurn_next_or_overflow tie picked
  | host g => exact .inl (hostTurn_has_next g)
  | _ => exact .inl ⟨_, rfl⟩

/-- What a count that cannot rise says of its parameter and of the counter (R240). -/
theorem State.full_of_not_canCount (h : s.canCount = false) :
    s.par.overflow = .faults ∧ s.stk.counter.toNat = 2 ^ 32 - 1 := by
  unfold State.canCount at h
  split at h
  · next hfaults =>
    have full : s.stk.counter = 0xFFFFFFFF#32 := by simpa using h
    exact ⟨hfaults, congrArg BitVec.toNat full⟩
  · cases h

end

/-! ### `SEQ` stays legal -/

theorem State.seqOk_iff (s : State) : s.seqOk = true ↔ s.bte.seq.toNat ≤ 0x13 := decide_eq_true_iff

/-- Every entry of the successor table is one of the twenty codes. -/
theorem seqSuccessor_legal {e : Bte} {i : Instr} {c : BitVec 5} (h : seqSuccessor e i = some c) : c.toNat ≤ 0x13 := by
  cases i <;> cases h
  case bteTransact | wData | wWaitBtf | rData => split_ifs <;> decide
  all_goals decide

theorem firstMicro_legal (m n : BitVec 8) : (firstMicro m n).toNat ≤ 0x13 := by
  unfold firstMicro
  split_ifs <;> decide

section
variable {s t : State}

theorem EngineKept.seqOk (h : EngineKept s t) (hs : s.seqOk = true) : t.seqOk = true := by
  rw [State.seqOk, h.bte]
  exact hs

theorem exec_micro_seqOk {i : Instr} (hk : i.kind = .micro) (hs : s.seqOk = true) (h : exec i s = .next t) :
    t.seqOk = true := by
  cases hr : microReady s.biu i with
  | false => cases (exec_of_not_microReady hr).symm.trans h; exact hs
  | true => exact t.seqOk_iff.2 (seqSuccessor_legal (exec_writes_successor hk hr h))

theorem exec_bteCommand_seqOk {i : Instr} (hk : i.kind = .bteCommand) (hidle : s.bte.seq = Seq.idle) (hs : s.seqOk = true)
    (h : exec i s = .next t) : t.seqOk = true := by
  obtain rfl | ⟨addr, m, n, rfl⟩ | kept := exec_bteCommand_engine hk hidle h
  · rfl
  · exact (State.seqOk_iff _).2 (firstMicro_legal m n)
  · exact kept.seqOk hs

theorem EngineTurn.seqOk (h : EngineTurn s t) (hs : s.seqOk = true) : t.seqOk = true := by
  cases h with
  | kept h => exact h.seqOk hs
  | micro i hd h => exact exec_micro_seqOk (decodeSeq_kind _ i hd) hs h
  | move h => rw [h, State.seqOk, State.biuTurn_bte]; exact hs
  | command i u hk hidle hu h => exact exec_bteCommand_seqOk hk ((congrArg Bte.seq hu.bte).trans hidle) (hu.seqOk hs) h

theorem step_seqOk (hs : s.seqOk = true) (h : step s = .next t) : t.seqOk = true := by
  obtain ⟨-, rfl⟩ | ⟨-, turn⟩ := step_cases h
  · rfl
  · exact turn.seqOk (s := s.dropTurn) hs

end

/-- Settles O56: the turn has a next state or is a tick at the limit, and a step keeps `SEQ` legal. -/
theorem everyStepSucceeds : Obligations.EveryStepSucceeds := by
  intro s hs
  obtain ⟨i, hd⟩ := decodeSeq_assigned (s.seqOk_iff.1 hs)
  obtain ⟨t, h⟩ | ⟨cannot, htif, h⟩ := takeTurn_next_or_overflow (s := s.dropTurn) s.turnNow hd
  · exact .inl ⟨t, h, step_seqOk hs h⟩
  · obtain ⟨faults, full⟩ := State.full_of_not_canCount cannot
    exact .inr ⟨faults, full, htif, h⟩

end Sys2Proof.Machine
end

section
/-! # Between steps only the edge handler is in service (60_exceptions.md R289, R292; 44_sensor_bridge_host.md R267)

The invariant speaks of the in-service bits and of the edge context alone. Most turns touch neither; an instruction may only hold or
release a giver; the edge context in its turn hands over the head of a list that ends in its one return. -/

namespace Sys2Proof.Machine

/-! ### The invariant -/

theorem State.handlersOk_iff (s : State) :
    s.handlersOk = true ↔ s.irq.insvc.disp = false ∧ s.irq.insvc.tick = false ∧
      (s.irq.insvc.edge = true → handlerBody s.ctx.edge.prog = true) ∧
      (s.irq.insvc.edge = false → s.ctx.edge.prog = [] ∧ s.ctx.edge.awaiting = false) := by
  cases h : s.irq.insvc.edge <;> simp [State.handlersOk, h, and_assoc]

/-- The in-service bits and the edge context's list are as before, and the edge context awaits nothing new out of service. -/
structure ServiceKept (s t : State) : Prop where
  insvc : t.irq.insvc = s.irq.insvc
  prog : t.ctx.edge.prog = s.ctx.edge.prog
  awaiting : t.ctx.edge.awaiting = true → s.ctx.edge.awaiting = true ∨ s.irq.insvc.edge = true

section
variable {s t : State}

theorem ServiceKept.of_eq (insvc : t.irq.insvc = s.irq.insvc) (edge : t.ctx.edge = s.ctx.edge) : ServiceKept s t :=
  ⟨insvc, congrArg HostCtx.prog edge, fun h => .inl (congrArg HostCtx.awaiting edge ▸ h)⟩

theorem ServiceKept.handlersOk (h : ServiceKept s t) (hs : s.handlersOk = true) : t.handlersOk = true := by
  obtain ⟨hdisp, htick, hbody, hrest⟩ := s.handlersOk_iff.1 hs
  rw [State.handlersOk_iff, h.insvc, h.prog]
  refine ⟨hdisp, htick, hbody, fun hout => ⟨(hrest hout).1, Bool.eq_false_iff.2 fun hawait => ?_⟩⟩
  obtain awaited | inService := h.awaiting hawait
  · exact absurd (hrest hout).2 (by simp [awaited])
  · exact absurd hout (by simp [inService])

end

/-! ### What an instruction does to the givers (40_bus_transaction_engine.md R144, R169) -/

section
variable {s t : State} {i : Instr}

/-- A micro-operation releases the givers or leaves them alone. -/
theorem exec_micro_ctx (hk : i.kind = .micro) (h : exec i s = .next t) : t.ctx = s.ctx ∨ t.ctx = s.releaseGivers.ctx := by
  cases i with
  | done => cases h; exact .inr rfl
  | rStage => cases h; simp only [State.setSeq_ctx]; split <;> simp
  | idle | wStart | wWaitSb | wAddr | wWaitAddr | wClrAddr | wData | wWaitTxe | wWaitBtf | wStop | rStart | rWaitSb | rAddr
  | rAckpol | rWaitAddr | rClrAddr | rWaitRxne | rData => cases h; simp
  | _ => cases hk

/-- At most the giver at the port changed, and not its list. -/
def PortGiverOnly (s t : State) : Prop :=
  t.ctx = s.ctx ∨ ∃ x : HostCtx, t.ctx = s.ctx.set s.ctx.giver x ∧ x.prog = (s.ctx.get s.ctx.giver).prog

theorem exec_bteCommand_portGiverOnly (hk : i.kind = .bteCommand) (h : exec i s = .next t) : PortGiverOnly s t := by
  have held : PortGiverOnly s s := .inl rfl
  cases i with
  | bteInit | bteWput => cases h; exact State.whenIdle_cases held (.inl rfl)
  | bteTransact | bteRget => cases h; exact State.whenIdle_cases held (.inr ⟨_, rfl, rfl⟩)
  | _ => cases hk

theorem exec_unitCommand_ctx (hk : i.kind = .unitCommand) (h : exec i s = .next t) : t.ctx = s.ctx := by
  cases i with
  | drsInit => cases h; rfl
  | drsPut idx byte => cases h; exact s.putSlot_ctx _ _
  | stkInit => cases h; simp
  | stkTrigger => cases h; split <;> simp
  | _ => cases hk

theorem exec_micro_serviceKept (hk : i.kind = .micro) (h : exec i s = .next t) : ServiceKept s t := by
  have insvc := (exec_ownedWrites h).insvc
  obtain ctx | ctx := exec_micro_ctx hk h
  · exact .of_eq insvc (congrArg Contexts.edge ctx)
  · exact ⟨insvc, by rw [ctx]; rfl, fun hawait => by rw [ctx] at hawait; cases hawait⟩

/-- A command of a giver: the edge context gives commands only while it is in service. -/
theorem exec_command_serviceKept (hk : i.kind = .bteCommand ∨ i.kind = .unitCommand)
    (hg : s.ctx.giver = .edge → s.irq.insvc.edge = true) (h : exec i s = .next t) : ServiceKept s t := by
  have insvc := (exec_ownedWrites h).insvc
  obtain hk | hk := hk
  · obtain ctx | ⟨x, ctx, hx⟩ := exec_bteCommand_portGiverOnly hk h
    · exact .of_eq insvc (congrArg Contexts.edge ctx)
    · cases giver : s.ctx.giver with
      | main => rw [giver] at ctx; exact .of_eq insvc (by rw [ctx]; rfl)
      | edge =>
        rw [giver] at ctx hx
        exact ⟨insvc, by rw [ctx]; exact hx, fun _ => .inr (hg giver)⟩
  · exact .of_eq insvc (congrArg Contexts.edge (exec_unitCommand_ctx hk h))

end

/-! ### The lists of the edge context (44_sensor_bridge_host.md R262, R264) -/

/-- No operation of the list is a return. -/
def ReturnFree (ops : List HostOp) : Prop := .handlerReturn ∉ ops

theorem ReturnFree.append {ops ops' : List HostOp} (h : ReturnFree ops) (h' : ReturnFree ops') : ReturnFree (ops ++ ops') :=
  fun hmem => (List.mem_append.1 hmem).elim h h'

theorem ReturnFree.nil : ReturnFree [] := nofun

theorem giveInstr_returnFree (i : Instr) : ReturnFree (giveInstr i) := by
  unfold giveInstr
  split <;> simp [ReturnFree]

theorem giveWputs_returnFree (ws : List Byte) (k : Nat) : ReturnFree (giveWputs k ws) := by
  induction ws generalizing k with
  | nil => exact .nil
  | cons w ws ih => exact (giveInstr_returnFree _).append (ih _)

theorem giveRgets_returnFree (n k : Nat) : ReturnFree (giveRgets k n) := by
  induction n generalizing k with
  | zero => exact .nil
  | succ n ih => exact (giveInstr_returnFree _).append (ih _)

theorem giveTransact_returnFree (addr : BitVec 7) (ws : List Byte) (n : Nat) : ReturnFree (giveTransact addr ws n) :=
  ((giveWputs_returnFree ws 0).append (giveInstr_returnFree _)).append (giveRgets_returnFree n 0)

theorem writeReg_returnFree (c : Sensor) (reg : BitVec 16) (val : Byte) : ReturnFree (writeReg c reg val) :=
  giveTransact_returnFree _ _ _

theorem calibrate_returnFree (c : Sensor) (table : List (BitVec 16 × Byte)) : ReturnFree (calibrate c table) := by
  induction table with
  | nil => exact .nil
  | cons e table ih => exact (writeReg_returnFree c _ _).append ih

theorem edgeBranch_returnFree (c : Sensor) (v : Byte) : ReturnFree (edgeBranch c v) := by
  unfold edgeBranch
  split
  · exact (giveInstr_returnFree _).append (writeReg_returnFree c _ _)
  · exact writeReg_returnFree c _ _

theorem freshBranch_returnFree (c : Sensor) (f : Byte) : ReturnFree (freshBranch c f) := by
  unfold freshBranch
  split
  · exact (calibrate_returnFree c _).append (writeReg_returnFree c _ _)
  · exact .nil

theorem handlerBody_cons {op : HostOp} {ops : List HostOp} (h : op ≠ .handlerReturn) :
    handlerBody (op :: ops) = handlerBody ops := by
  cases ops <;> simp [handlerBody, h]

theorem handlerBody_append {ops ops' : List HostOp} (h : ReturnFree ops) : handlerBody (ops ++ ops') = handlerBody ops' := by
  induction ops with
  | nil => rfl
  | cons op ops ih =>
    rw [List.cons_append, handlerBody_cons (List.ne_of_not_mem_cons h).symm, ih (List.not_mem_of_not_mem_cons h)]

theorem handlerBody_edgeHandler (c : Sensor) : handlerBody (edgeHandler c) = true := by
  rw [edgeHandler, readReg, handlerBody_append (giveTransact_returnFree _ _ _), handlerBody_cons (op := .edgeTest) nofun, edgeFinish,
    handlerBody_append (writeReg_returnFree c _ _)]
  rfl

/-! ### The turns -/

section
variable {s t : State} {g : Giver} {op : HostOp} {ops : List HostOp}

theorem dispatchTurn_handlersOk {tie : Source} {picked : DispEvent} (hs : s.handlersOk = true)
    (h : dispatchTurn exec tie picked s = .next t) : t.handlersOk = true := by
  obtain whole | ⟨-, rfl⟩ := dispatchTurn_cases h
  · exact (ServiceKept.of_eq whole.insvc (congrArg Contexts.edge whole.ctx)).handlersOk hs
  · obtain ⟨hdisp, htick, -, -⟩ := s.handlersOk_iff.1 hs
    exact (State.handlersOk_iff _).2 ⟨hdisp, htick, fun _ => handlerBody_edgeHandler s.par.sensor, nofun⟩

/-- The edge context has something to give only while it is in service. -/
theorem State.inService_of_prog (hs : s.handlersOk = true) (hprog : (s.context g).prog = op :: ops) :
    g = .edge → s.irq.insvc.edge = true := by
  rintro rfl
  obtain ⟨-, -, -, hrest⟩ := s.handlersOk_iff.1 hs
  by_contra hout
  exact absurd (hprog.symm.trans (hrest (Bool.eq_false_iff.2 hout)).1) nofun

/-- An operation that is no return leaves the return to come. -/
theorem State.popOp_handlersOk (hs : s.handlersOk = true) (hprog : (s.context g).prog = op :: ops)
    (hop : g = .edge → op ≠ .handlerReturn) : (s.popOp g).handlersOk = true := by
  cases g with
  | main => exact (ServiceKept.of_eq (s := s) (t := s.popOp .main) rfl rfl).handlersOk hs
  | edge =>
    have inService := State.inService_of_prog hs hprog rfl
    obtain ⟨hdisp, htick, hbody, -⟩ := s.handlersOk_iff.1 hs
    change s.ctx.edge.prog = op :: ops at hprog
    have left : (s.popOp .edge).ctx.edge.prog = ops := congrArg (List.drop 1) hprog
    have body : handlerBody (op :: ops) = true := hprog ▸ hbody inService
    rw [handlerBody_cons (hop rfl), ← left] at body
    exact (State.handlersOk_iff _).2 ⟨hdisp, htick, fun _ => body, fun hout => absurd (inService.symm.trans hout) nofun⟩

/-- Operations that hold no return may be put before what a giver in service has to do. -/
theorem State.pushOps_handlersOk (hs : s.handlersOk = true) (hg : g = .edge → s.irq.insvc.edge = true)
    (hops : ReturnFree ops) : (s.pushOps g ops).handlersOk = true := by
  cases g with
  | main => exact (ServiceKept.of_eq (s := s) (t := s.pushOps .main ops) rfl rfl).handlersOk hs
  | edge =>
    obtain ⟨hdisp, htick, hbody, -⟩ := s.handlersOk_iff.1 hs
    have body : handlerBody (ops ++ s.ctx.edge.prog) = true := (handlerBody_append hops).trans (hbody (hg rfl))
    exact (State.handlersOk_iff _).2 ⟨hdisp, htick, fun _ => body, fun hout => absurd ((hg rfl).symm.trans hout) nofun⟩

/-- The edge context's return is its last operation, and ends the service (R293). -/
theorem State.returned_handlersOk (hs : s.handlersOk = true) (hfree : (s.context .edge).awaiting = false)
    (hprog : (s.context .edge).prog = .handlerReturn :: ops) : ((s.popOp .edge).returnFrom .edge).handlersOk = true := by
  obtain ⟨hdisp, htick, hbody, -⟩ := s.handlersOk_iff.1 hs
  have body := hbody (State.inService_of_prog hs hprog rfl)
  change s.ctx.edge.prog = .handlerReturn :: ops at hprog
  rw [hprog] at body
  have left : s.ctx.edge.prog.drop 1 = [] := by rw [hprog, handlerBody_return_last body]; rfl
  exact (State.handlersOk_iff _).2 ⟨hdisp, htick, nofun, fun _ => ⟨left, hfree⟩⟩

theorem giveWord_handlersOk {w : Word} (hs : s.handlersOk = true) (hprog : (s.context g).prog = .command w :: ops)
    (h : giveWord exec g w s = .next t) : t.handlersOk = true := by
  have popped : (s.popOp g).handlersOk = true := State.popOp_handlersOk hs hprog nofun
  have inService : g = .edge → s.irq.insvc.edge = true := State.inService_of_prog hs hprog
  unfold giveWord at h
  split at h
  · next i hd =>
    split at h
    · have kept := exec_command_serviceKept (s := s.popOp g) (decodeCommand_kind w i hd) inService h
      exact kept.handlersOk popped
    · cases h; exact hs
  · cases h; exact popped

theorem hostOp_handlersOk (hs : s.handlersOk = true) (hfree : (s.context g).awaiting = false)
    (hprog : (s.context g).prog = op :: ops) (h : hostOp exec g s op = .next t) : t.handlersOk = true := by
  have inService := State.inService_of_prog hs hprog
  cases op with
  | command w => exact giveWord_handlersOk hs hprog h
  | edgeTest =>
    cases h
    exact State.pushOps_handlersOk (State.popOp_handlersOk hs hprog nofun) inService (edgeBranch_returnFree _ _)
  | freshTest =>
    cases h
    exact State.pushOps_handlersOk (State.popOp_handlersOk hs hprog nofun) inService (freshBranch_returnFree _ _)
  | enableLine src =>
    cases h
    exact (ServiceKept.of_eq (s := s.popOp g) rfl rfl).handlersOk (State.popOp_handlersOk hs hprog nofun)
  | handlerReturn =>
    cases h
    cases g with
    | main => exact State.popOp_handlersOk (g := .main) hs hprog nofun
    | edge => exact State.returned_handlersOk hs hfree hprog

theorem hostTurn_handlersOk (hs : s.handlersOk = true) (h : hostTurn exec g s = .next t) : t.handlersOk = true := by
  unfold hostTurn at h
  split at h
  · cases h; exact hs
  · next hfree =>
    split at h
    · cases h; exact hs
    · next op ops hprog => exact hostOp_handlersOk hs (Bool.eq_false_iff.2 hfree) hprog h

theorem State.injectWord_serviceKept (s : State) (w : Word) : ServiceKept s (s.injectWord w) := by
  unfold State.injectWord
  split_ifs <;> exact .of_eq (by simp) (by simp)

theorem takeTurn_handlersOk {turn : Turn} (hs : s.handlersOk = true) (h : takeTurn exec turn s = .next t) :
    t.handlersOk = true := by
  cases turn with
  | seq =>
    change seqTurn exec s = .next t at h
    unfold seqTurn at h
    split at h
    · next i hd => exact (exec_micro_serviceKept (decodeSeq_kind _ i hd) h).handlersOk hs
    · cases h
  | biu | dispTimer | tickTimer => cases h; exact (ServiceKept.of_eq (by simp) (by simp)).handlersOk hs
  | dispatch tie picked => exact dispatchTurn_handlersOk hs h
  | host g => exact hostTurn_handlersOk hs h
  | sensorEdge | submit | boot | enableLine => cases h; exact (ServiceKept.of_eq (s := s) rfl rfl).handlersOk hs
  | inject w => cases h; exact (s.injectWord_serviceKept w).handlersOk hs
  | reset => cases h; rfl

end

/-- Settles O60: every turn keeps the invariant, whatever turn is due. -/
theorem handlersInvariant : Obligations.HandlersInvariant := fun s _ hs h => takeTurn_handlersOk (s := s.dropTurn) hs h

end Sys2Proof.Machine
end

section
/-! # What only reset forgets (60_exceptions.md R287, 10_state.md R14, R45, R56, 00_scope.md R9)

`Remembers` is the frame of everything but reset: the parameters as they were, no line disabled, the display timer not stopped, the wire
longer at its end only, no written entry unwritten. It is reflexive and transitive, every instruction and every update a turn is made of
has it, and so has every turn. -/

namespace Sys2Proof.Machine

/-- Nothing of what only reset forgets is forgotten from `s` to `t`. -/
structure Remembers (s t : State) : Prop where
  par : t.par = s.par
  ie : ∀ src, s.irq.ie.get src = true → t.irq.ie.get src = true
  den : s.drs.den = true → t.drs.den = true
  wire : s.wire <+: t.wire
  written : ∀ sp i, (s.readByte sp i).isSome = true → (t.readByte sp i).isSome = true

section
variable {s t u : State}

theorem Remembers.refl (s : State) : Remembers s s := ⟨rfl, fun _ => id, id, List.prefix_rfl, fun _ _ => id⟩

theorem Remembers.trans (h : Remembers s t) (h' : Remembers t u) : Remembers s u :=
  ⟨h'.par.trans h.par, fun src => h'.ie src ∘ h.ie src, h'.den ∘ h.den, h.wire.trans h'.wire,
    fun sp i => h'.written sp i ∘ h.written sp i⟩

/-! ### Written entries (R56) -/

/-- A slot of the frame buffer always holds a value, so only the two buffers count. -/
theorem State.readByte_isSome_of_buffers_eq (hwbuf : t.wbuf = s.wbuf) (hrbuf : t.rbuf = s.rbuf) (sp : Space) (i : Nat)
    (h : (s.readByte sp i).isSome = true) : (t.readByte sp i).isSome = true := by
  cases sp with
  | fb => rw [State.readByte_fb]; rfl
  | wbuf => rwa [State.readByte, State.mem, hwbuf]
  | rbuf => rwa [State.readByte, State.mem, hrbuf]

/-- The entry written holds the byte, the others what they held. -/
theorem State.readByte_isSome_of_writeByte (sp : Space) (i : Nat) (v : Byte) (sp' : Space) (j : Nat)
    (h : (s.readByte sp' j).isSome = true) : ((s.writeByte sp i v).readByte sp' j).isSome = true := by
  by_cases hsame : sp = sp' ∧ i = j
  · obtain ⟨rfl, rfl⟩ := hsame
    cases sp with
    | fb => rw [State.readByte_fb]; rfl
    | wbuf | rbuf => exact congrArg Option.isSome (Memory.read_write_same_of_unlisted _ _ i v rfl)
  · rw [State.readByte_writeByte_other s sp sp' i j v (not_and_or.1 hsame)]
    exact h

/-! ### Frames that remember -/

/-- Parameters, line enables and buffers as before, the timer not stopped, the wire longer at most. -/
theorem Remembers.of_frame (hden : s.drs.den = true → t.drs.den = true) (hwire : s.wire <+: t.wire)
    (hpar : t.par = s.par := by rfl) (hie : t.irq.ie = s.irq.ie := by rfl) (hwbuf : t.wbuf = s.wbuf := by rfl)
    (hrbuf : t.rbuf = s.rbuf := by rfl) : Remembers s t :=
  ⟨hpar, fun src => by rw [hie]; exact id, hden, hwire, State.readByte_isSome_of_buffers_eq hwbuf hrbuf⟩

theorem BusOnly.remembers (h : BusOnly s t) (hwire : s.wire <+: t.wire) : Remembers s t :=
  .of_frame (fun hden => (congrArg Drs.den h.drs).trans hden) hwire h.par (congrArg Irq.ie h.irq) h.wbuf h.rbuf

theorem UnitsOnly.remembers (h : UnitsOnly s t) (hden : s.drs.den = true → t.drs.den = true) : Remembers s t :=
  .of_frame hden (h.wire ▸ List.prefix_rfl) h.par h.ie h.wbuf h.rbuf

theorem State.writeByte_remembers (s : State) (sp : Space) (i : Nat) (v : Byte) : Remembers s (s.writeByte sp i v) :=
  ⟨by simp, by simp, by simp, by simp, State.readByte_isSome_of_writeByte sp i v⟩

end

/-! ### The wire is added to at its end (R14) -/

section
variable (s : State)

theorem State.eagerStop_wire_prefix : s.wire <+: s.eagerStop.wire := by
  obtain ⟨-, h⟩ | ⟨-, h⟩ := s.eagerStop_cases 
  · rw [h]; exact List.prefix_append _ _
  · rw [h]

theorem State.aStop_wire_prefix : s.wire <+: s.aStop.wire :=
  State.eagerStop_wire_prefix { s with biu := { s.biu with stopreq := true } }

theorem State.takeMove_wire_prefix (m : Move) : s.wire <+: (s.takeMove m).wire := by
  cases m with
  | start => exact List.prefix_append _ _
  | txload => exact List.prefix_rfl
  | addr => rw [State.takeMove, State.mAddr_eq]; exact List.prefix_append _ _
  | txbyte => rw [State.takeMove, State.mTxbyte_eq]; exact List.prefix_append _ _
  | rxbyte =>
    cases hackl : s.biu.ackl with
    | true => rw [State.takeMove, State.mRxbyte_acked hackl]; exact List.prefix_append _ _
    | false =>
      rw [State.takeMove, State.mRxbyte_halted hackl]
      have received : s.wire <+: s.halted.wire := List.prefix_append _ _
      exact received.trans s.halted.eagerStop_wire_prefix

theorem State.biuTurn_remembers : Remembers s s.biuTurn := by
  have wire : s.wire <+: s.biuTurn.wire := by
    unfold State.biuTurn
    split
    · exact s.takeMove_wire_prefix _
    · exact List.prefix_rfl
  exact .of_frame (by simp) wire (by simp) (by simp) (by simp) (by simp)

end

/-! ### Every instruction -/

section
variable {s t : State} {i : Instr}

/-- Of the micro-operations only those that may request a stop put a symbol on the wire. -/
theorem exec_micro_wire_prefix (hk : i.kind = .micro) (h : exec i s = .next t) : s.wire <+: t.wire := by
  cases i with
  | wStop => cases h; exact s.aStop_wire_prefix
  | rStage =>
    cases h
    rw [State.setSeq_wire]
    split
    · exact (s.aAck false).aStop_wire_prefix
    · exact List.prefix_rfl
  | idle | wStart | wWaitSb | wAddr | wWaitAddr | wClrAddr | wData | wWaitTxe | wWaitBtf | rStart | rWaitSb | rAddr
  | rAckpol | rWaitAddr | rClrAddr | rWaitRxne | rData | done => cases h; simp
  | _ => cases hk

theorem exec_micro_remembers (hk : i.kind = .micro) (h : exec i s = .next t) : Remembers s t := by
  by_cases hi : i = .rData
  · subst hi
    cases h
    have read : Remembers s s.aDrRead := .of_frame (by simp) (by simp) (by simp) (by simp) (by simp) (by simp)
    have written := read.trans (s.aDrRead.writeByte_remembers .rbuf s.bte.ridx.toNat s.drReadValue)
    exact written.trans (.of_frame id List.prefix_rfl)
  · exact (exec_micro_busOnly hk hi h).remembers (exec_micro_wire_prefix hk h)

theorem exec_bteCommand_remembers (hk : i.kind = .bteCommand) (h : exec i s = .next t) : Remembers s t := by
  have held := Remembers.refl s
  cases i with
  | bteInit => cases h; exact State.whenIdle_cases held (s.initEngine_busOnly.remembers List.prefix_rfl)
  | bteTransact addr m n => cases h; exact State.whenIdle_cases held ((s.beginTransaction_busOnly addr m n).remembers List.prefix_rfl)
  | bteWput idx byte => cases h; exact State.whenIdle_cases held (s.writeByte_remembers .wbuf _ byte)
  | bteRget idx => cases h; exact State.whenIdle_cases held (.of_frame id List.prefix_rfl)
  | _ => cases hk

/-- No instruction of the units stops the display timer (R45). -/
theorem exec_units_den (hk : i.kind = .unitCommand ∨ i.kind = .event) (h : exec i s = .next t) (hden : s.drs.den = true) :
    t.drs.den = true := by
  cases i with
  | drsInit => cases h; rfl
  | drsPut idx byte => cases h; rw [State.putSlot_drs]; exact hden
  | stkInit => cases h; rw [State.render_drs]; rfl
  | stkTrigger => cases h; split <;> simpa using hden
  | evDispUpdate | evDispCompare | evSensorEdge => cases h; exact hden
  | evTick => obtain ⟨-, rfl⟩ := (execEvTick_next s t).1 h; rw [State.countTick_drs]; exact hden
  | _ => simp [Instr.kind] at hk

theorem exec_remembers (h : exec i s = .next t) : Remembers s t := by
  obtain (hk | hk) | hk := kind_engineSide_or_unitSide i
  · exact exec_bteCommand_remembers hk h
  · exact exec_micro_remembers hk h
  · exact (exec_unitsOnly hk h).remembers (exec_units_den hk h)

end

/-! ### Every turn but reset's -/

section
variable {s t : State} {g : Giver}

theorem State.enableLine_remembers (s : State) (src : Source) : Remembers s (s.enableLine src) := by
  refine ⟨rfl, fun other hother => ?_, id, List.prefix_rfl, fun _ _ => id⟩
  rw [State.enableLine_irq, Lines.get_set_true, hother, Bool.true_or]

theorem State.popOp_remembers (s : State) (g : Giver) : Remembers s (s.popOp g) := .of_frame id List.prefix_rfl

theorem State.injectWord_remembers (s : State) (w : Word) : Remembers s (s.injectWord w) := by
  unfold State.injectWord
  split_ifs <;> exact .of_frame id List.prefix_rfl

theorem State.dispTimerTurn_remembers (s : State) (first : DispEvent) : Remembers s (s.dispTimerTurn first) := by
  refine .of_frame (fun hden => ?_) (by simp) (by simp) (by simp) (by simp) (by simp)
  cases hdue : s.dispEventDue first with
  | update => rw [State.dispTimerTurn_update hden hdue]; exact hden
  | compare => rw [State.dispTimerTurn_compare hden hdue]; exact hden

theorem dispatchTurn_remembers {tie : Source} {picked : DispEvent} (h : dispatchTurn exec tie picked s = .next t) :
    Remembers s t := by
  unfold dispatchTurn at h
  split at h
  · cases h; exact .refl s
  · next src _ =>
    obtain ⟨u, hrun, rfl⟩ := (thenState_next _ _ _).1 h
    have entered : Remembers s (s.enterHandler src) := .of_frame id List.prefix_rfl
    have returned : Remembers u (u.afterService src) := by cases src <;> exact .of_frame id List.prefix_rfl
    exact (entered.trans (exec_remembers hrun)).trans returned

theorem giveWord_remembers {w : Word} (h : giveWord exec g w s = .next t) : Remembers s t := by
  unfold giveWord at h
  split at h
  · split at h
    · exact (s.popOp_remembers g).trans (exec_remembers h)
    · cases h; exact .refl s
  · cases h; exact s.popOp_remembers g

theorem hostOp_remembers {op : HostOp} (h : hostOp exec g s op = .next t) : Remembers s t := by
  cases op with
  | command w => exact giveWord_remembers h
  | edgeTest | freshTest => cases h; exact .of_frame id List.prefix_rfl
  | enableLine src => cases h; exact (s.popOp_remembers g).trans ((s.popOp g).enableLine_remembers src)
  | handlerReturn => cases h; cases g <;> exact .of_frame id List.prefix_rfl

theorem hostTurn_remembers (h : hostTurn exec g s = .next t) : Remembers s t := by
  unfold hostTurn at h
  split at h
  · cases h; exact .refl s
  · split at h
    · cases h; exact .refl s
    · exact hostOp_remembers h

theorem seqTurn_remembers (h : seqTurn exec s = .next t) : Remembers s t := by
  unfold seqTurn at h
  split at h
  · exact exec_remembers h
  · cases h

theorem takeTurn_remembers {turn : Turn} (hr : turn ≠ .reset) (h : takeTurn exec turn s = .next t) : Remembers s t := by
  cases turn with
  | seq => exact seqTurn_remembers h
  | biu => cases h; exact s.biuTurn_remembers
  | dispTimer first => cases h; exact s.dispTimerTurn_remembers first
  | tickTimer => cases h; exact .of_frame (by simp) (by simp) (by simp) (by simp) (by simp) (by simp)
  | dispatch tie picked => exact dispatchTurn_remembers h
  | host g => exact hostTurn_remembers h
  | sensorEdge | submit | boot => cases h; exact .of_frame id List.prefix_rfl
  | enableLine src => cases h; exact s.enableLine_remembers src
  | inject w => cases h; exact s.injectWord_remembers w
  | reset => exact absurd rfl hr

end

/-- Settles O51: every turn but reset's remembers, and reset keeps the parameters. -/
theorem onlyResetForgets : Obligations.OnlyResetForgets := by
  intro s t h
  change takeTurn exec s.turnNow s.dropTurn = .next t at h
  by_cases hr : s.turnNow = .reset
  · rw [hr] at h
    cases h
    exact ⟨rfl, fun hne => absurd hr hne⟩
  · have kept := takeTurn_remembers hr h
    obtain ⟨xs, hxs⟩ := kept.wire
    exact ⟨kept.par, fun _ => ⟨kept.ie, kept.den, ⟨xs, hxs.symm⟩, kept.written⟩⟩

end Sys2Proof.Machine
end

section
/-! # Boot and reset (44_sensor_bridge_host.md R261, R264, 70_reset_and_hazards.md R320 to R323)

The two register accesses of the host are four words each, the boot sequence and the calibration are lists of such accesses, and the
turns that begin them are the listed turns of `step`. Reset is the listed turn that answers the state after reset; its values, and the
invariants, are read off the record. -/

namespace Sys2Proof.Machine

/-! ### Register accesses word by word (R261) -/

section
variable (c : Sensor) (reg : BitVec 16)

/-- Taking eight bits out of a register address is dividing it (20_memory.md R84). -/
theorem regAddressBytes_eq : regAddressBytes c reg = (regFirstByte c.order reg, regSecondByte c.order reg) := by
  have high : reg.extractLsb' 8 8 = BitVec.ofNat 8 (reg.toNat / 256) :=
    congrArg (BitVec.ofNat 8) (Nat.shiftRight_eq_div_pow reg.toNat 8)
  have low : reg.extractLsb' 0 8 = BitVec.ofNat 8 reg.toNat := rfl
  cases h : c.order <;> simp only [regAddressBytes, regFirstByte, regSecondByte, h, high, low]

theorem writeReg_eq_writeRegWords (val : Byte) : writeReg c reg val = writeRegWords c reg val := by
  rw [writeRegWords, regAddressBytes_eq]
  rfl

theorem readReg_eq_readRegWords : readReg c reg = readRegWords c reg := by
  rw [readRegWords, regAddressBytes_eq]
  rfl

end

/-! ### The boot sequence and the branch of its test (R264, R323) -/

/-- One write per row of the table, in its order. -/
theorem calibrate_eq_flatMap (c : Sensor) (table : List (BitVec 16 × Byte)) :
    calibrate c table = table.flatMap (fun e => writeRegWords c e.1 e.2) := by
  induction table with
  | nil => rfl
  | cons e table ih => rw [calibrate, ih, writeReg_eq_writeRegWords, List.flatMap_cons]

theorem freshBranch_eq (c : Sensor) (f : Byte) :
    freshBranch c f =
      if f = 0#8 then []
      else c.calTable.flatMap (fun e => writeRegWords c e.1 e.2) ++ writeRegWords c c.regFreshReset 0#8 := by
  rw [freshBranch, ite_not, calibrate_eq_flatMap, writeReg_eq_writeRegWords]

theorem giveInstr_bteInit : giveInstr .bteInit = [.command 0x01000000#32] := rfl

theorem giveInstr_stkInit : giveInstr .stkInit = [.command 0x20000000#32] := rfl

theorem bootSequence_eq (c : Sensor) :
    bootSequence c =
      [.command 0x01000000#32, .command 0x20000000#32] ++ readRegWords c c.regFreshReset ++ [.freshTest] ++
        writeRegWords c c.regIntMode c.modeLow ++ writeRegWords c c.regStart c.valStartCont ++
        [.enableLine .disp, .enableLine .tick, .enableLine .edge] := by
  simp only [bootSequence, sensorBoot, giveInstr_bteInit, giveInstr_stkInit, readReg_eq_readRegWords, writeReg_eq_writeRegWords,
    List.append_assoc, List.cons_append, List.nil_append]

/-- A giver at the fresh test replaces it by its branch. -/
theorem hostTurn_freshTest {s : State} {g : Giver} {ops : List HostOp} (hfree : (s.context g).awaiting = false)
    (hprog : (s.context g).prog = .freshTest :: ops) (run : Instr → State → Result) :
    hostTurn run g s = .next ((s.popOp g).pushOps g (freshBranch s.par.sensor (s.context g).resp)) := by
  simp [hostTurn, hfree, hprog, hostOp]

/-! ### The state after reset (R321) -/

/-- A memory in which nothing is listed reads the same everywhere. -/
theorem Memory.read_nil (sp : Space) (i : Nat) : Memory.read sp [] i = sp.unlisted := rfl

theorem State.reset_readByte (sp : Space) (i : Nat) : State.reset.readByte sp i = sp.unlisted := by
  cases sp <;> exact Memory.read_nil _ i

theorem Lines.none_get (src : Source) : Lines.none.get src = false := by cases src <;> rfl

theorem State.reset_idle : State.reset.bte.seq = Seq.idle := rfl

theorem State.reset_biu_quiet : State.reset.biu.quiet = true := rfl

theorem State.reset_stk : State.reset.stk = Stk.cleared := rfl

theorem Stk.cleared_ok : Stk.cleared.ok = true := Stk.cleared.ok_iff.2 (by simp [Stk.cleared])

theorem State.reset_protocolOk : State.reset.protocolOk = true :=
  protocolOk_of_quiet_idle State.reset_idle State.reset_biu_quiet

theorem State.reset_handlersOk : State.reset.handlersOk = true :=
  State.reset.handlersOk_iff.2 ⟨rfl, rfl, nofun, fun _ => ⟨rfl, rfl⟩⟩

/-! ### The obligations -/

/-- Settles O49: the boot turn adds the sequence and the turn at the test its branch, each as the register accesses it consists of. -/
theorem bootOrder : Obligations.BootOrder := by
  refine ⟨fun s rest c hturn hc => ?_, fun s rest c ops hturn hc hfree hprog => ?_⟩
  · subst hc
    rw [← bootSequence_eq]
    exact step_listed hturn
  · subst hc
    let u := s.withAgenda rest
    have popped : u.popOp .main = { u with ctx := { u.ctx with main := { u.ctx.main with prog := ops }, giver := .main } } :=
      State.popOp_of_prog hprog
    rw [← freshBranch_eq]
    calc step s
      _ = hostTurn exec .main u := step_listed hturn
      _ = .next ((u.popOp .main).pushOps .main (freshBranch s.par.sensor s.ctx.main.resp)) :=
        hostTurn_freshTest (s := u) (g := .main) hfree hprog exec
      _ = _ := by rw [popped]; rfl

/-- Settles O52: the registers are read off the record of the state after reset, and a memory with nothing listed reads as its space's
unlisted entries do. -/
theorem resetValues : Obligations.ResetValues := by
  refine ⟨State.reset_idle, State.reset.not_busy_iff.2 State.reset_idle, rfl, rfl, rfl, rfl, rfl, rfl, rfl, rfl, rfl, rfl, rfl,
    rfl, rfl, rfl, rfl, rfl, rfl, State.reset_stk, rfl, rfl, ?lines, ?slots, ?buffers⟩
  case lines => exact fun src => ⟨Lines.none_get src, Lines.none_get src⟩
  case slots => exact fun k _ => State.reset_readByte .fb k
  case buffers => exact fun k => ⟨State.reset_readByte .wbuf k, State.reset_readByte .rbuf k⟩

/-- Settles O53: the listed turn is reset's, which takes from the state before it the parameters and the environment alone. -/
theorem resetForgetsEverything : Obligations.ResetForgetsEverything := by
  intro s rest hturn
  have turn : step s = .next (s.withAgenda rest).resetTurn := step_listed hturn
  exact turn

/-- Settles O54: the state after reset is idle and quiet, with nothing listed, pending or in service; each invariant is met there by
what it says of such a state. -/
theorem resetHasTheInvariants : Obligations.ResetHasTheInvariants :=
  ⟨(State.memoriesOk_iff _).2 State.reset_memories_wf, State.reset.seqOk_iff.2 (by simp [State.reset_idle, Seq.idle]),
    State.reset_protocolOk, State.flagsOk_of_protocolOk State.reset_protocolOk, Stk.cleared_ok, State.reset_handlersOk,
    State.reset.readsAskedFor_iff.2 nofun, State.reset.noBench_iff.2 nofun⟩

end Sys2Proof.Machine
end
